-- ==== Sys2Proof/Word.lean ====
section
/-! DEFINITION. The bit-vector types of the block: a byte, a 4-bit code, a 16-bit sample, an 8-bit step
index and a 32-bit sequence number (00_scope.md R6, R7, R8). Signed readings are `BitVec.toInt`. -/

namespace Sys2Proof

/-- 8 bits (R7). -/
abbrev Byte := BitVec 8

/-- A 4-bit ADPCM code, also called a nibble: `uint4` (R8, R61). -/
abbrev Code := BitVec 4

/-- A signed 16-bit PCM sample or predictor, `int16`; its value is `BitVec.toInt` (R8, R14). -/
abbrev Sample := BitVec 16

/-- A step index: `uint8`, legal values 0 to 88 (R15). -/
abbrev StepIndex := BitVec 8

/-- A packet sequence number: `uint32`, it wraps at `2^32` (R17). -/
abbrev Seq := BitVec 32

/-- A `W_SIZE`-bit word: the command argument and an event's information word (R72, R230). -/
abbrev SizeWord := BitVec 32

/-- A `W_TIME`-bit word: the operand of `TICK` (R160). -/
abbrev TimeWord := BitVec 64

end Sys2Proof
end

