-- ==== Sys2Proof/Config.lean ====
section
/-! DEFINITION. What is fixed when the block is built (00_scope.md R5, R6, 10_state.md R29) and the free
values, constants without a body about which nothing can be proved. -/

namespace Sys2Proof

/-- `W_TIME`: the width in bits of the time base and of every deadline (R5, D2). -/
def Config.wTime : Nat := 64

/-- `W_SIZE`: the width in bits of byte counts, chunk indices and totals (R5, D39). -/
def Config.wSize : Nat := 32

/-- `TICK_HZ`: ticks of the time base in one second (R5, D2). -/
def Config.tickHz : Nat := 1000000

/-- The predictor of `ENC_INIT` (R5, D3). -/
def Config.encInitPredictor : Sample := 0

/-- The step index of `ENC_INIT` (R5, D3). -/
def Config.encInitStepIndex : StepIndex := 0

/-- `SEQ_INIT`: the sequence number of a session's first packet (R5, D9). -/
def Config.seqInit : Seq := 0

/-- `REQ_TOKEN`: the body of the request message, an OPEN parameter that the source never spells
(R5, R66, D23). Free: nothing constrains it. -/
opaque Config.reqToken : List Byte

/-- FREE VALUE (log 4). Whether the datagram channel takes the n-th packet the hardware schedule sends:
a free input of `SEND_FRAME` (R177, D38), drawn by the counter `State.sends`. -/
opaque Config.sendAccepted : Nat → Bool

/-- FREE VALUE (log 9). The target time of R152 for an anchor and a frame count while the latched
`PACE_DEN` is 0: the quotient has no value there, and no start command latches such a record. -/
opaque Config.targetOverZero : Nat → Nat → TimeWord

end Sys2Proof
end

