-- ==== Sys2Proof/Machine/Tables.lean ====
section
/-! DEFINITION. The two read-only tables of the codec: `STEP_TABLE` and `INDEX_TABLE`
(40_codec.md R91, R92), as the memories `ROM_STEP` and `ROM_IDX` (20_memory.md R41, R42). -/

namespace Sys2Proof.Machine

/-- `STEP_TABLE`: the 89 step sizes, index 0 to 88 (R91). -/
def stepTable : List Nat :=
  [7, 8, 9, 10, 11, 12, 13, 14, 16, 17] ++
  [19, 21, 23, 25, 28, 31, 34, 37, 41, 45] ++
  [50, 55, 60, 66, 73, 80, 88, 97, 107, 118] ++
  [130, 143, 157, 173, 190, 209, 230, 253, 279, 307] ++
  [337, 371, 408, 449, 494, 544, 598, 658, 724, 796] ++
  [876, 963, 1060, 1166, 1282, 1411, 1552, 1707, 1878, 2066] ++
  [2272, 2499, 2749, 3024, 3327, 3660, 4026, 4428, 4871, 5358] ++
  [5894, 6484, 7132, 7845, 8630, 9493, 10442, 11487, 12635, 13899] ++
  [15289, 16818, 18500, 20350, 22385, 24623, 27086, 29794, 32767]

/-- `INDEX_TABLE`: the 16 index adjustments, index = the code (R92). -/
def indexTable : List Int :=
  [-1, -1, -1, -1, 2, 4, 6, 8] ++ [-1, -1, -1, -1, 2, 4, 6, 8]

/-- `ROM_STEP[i]` (R41). Every operation that reads it checks first that the index is at most 88; the
value given beyond the table is never used. -/
def romStep (i : StepIndex) : Nat := stepTable.getD i.toNat 0

/-- `ROM_IDX[c]` (R42). -/
def romIdx (c : Code) : Int := indexTable.getD c.toNat 0

end Sys2Proof.Machine
end

