-- ==== Sys2Proof/Syntax.lean ====
section
/-! DEFINITION. The operations of the block as syntax: one constructor of `Instr` for each row of
spec/opcode_table.json (30_encoding.md R60 to R72, 60_exceptions.md R231), the transactions they are written
as, and what the environment offers. -/

namespace Sys2Proof

/-- `STX.mode`: file mode or live-capture mode (10_state.md R22). -/
inductive Mode where
  | file
  | live
  deriving DecidableEq, Repr

/-- What the datagram port returns for a send (43_transport.md R177). -/
inductive SendResult where
  | ok
  | fail
  deriving DecidableEq, Repr

/-- The messaging topics `T_REQ`, `T_RESP`, `T_DATA`, `T_ACK` (R65), pairwise distinct names whose spelling is
open (R5), and any other topic (R78). -/
inductive Topic where
  | req
  | resp
  | data
  | ack
  | other
  deriving DecidableEq, Repr

/-- The names of the configuration registers (10_state.md R29). -/
inductive CfgName where
  | destAddr
  | destPort
  | sampleRate
  | channels
  | frameMs
  | chunkSize
  | ackTimeout
  | capTimeout
  | paceNum
  | paceDen
  | idx0
  deriving DecidableEq, Repr

/-- The operations that have no encoding and no input port of their own: functions and internal steps
(R60, kinds `fn` and `int`). A transaction names one of them to invoke it directly. -/
inductive CallOp where
  | recon
  | encSample
  | decSample
  | encLoad
  | decLoad
  | framePush
  | framePad
  | frameClose
  | encFrame
  | paceAnchor
  | paceMark
  | paceGate
  | loopRestart
  | sendFrame
  | capDecide
  | capTimeout
  | xferSendChunk
  | xferAckMatch
  | xferAckTimeout
  deriving DecidableEq, Repr

/-- Where a transaction stands, which decides how its bytes are read: one of the formats of
30_encoding.md (`N4`, `PB`, `PKT`, `MSG` on a topic, `CMD`, `EVENT`), an input port (20_memory.md R45), or the
name of an operation that is invoked directly. -/
inductive Source where
  | n4
  | pb
  | pkt
  | msg (topic : Topic)
  | cmd
  | event
  | resetIn
  | cfg
  | msgIn (topic : Topic)
  | pcmSample
  | pcmEof
  | pcmOverrun
  | dgramIn
  | time
  | call (op : CallOp)
  deriving DecidableEq, Repr

/-- One whole item at one source: the bytes of one operation. -/
structure Transaction where
  source : Source
  bytes : List Byte
  deriving DecidableEq, Repr

/-- Why the decoder rejects a transaction. -/
inductive Reject where
  /-- the number of bytes is not the format's -/
  | badLength
  /-- a 4-bit field with a byte above 15 -/
  | badNibble
  /-- a command code above 3 -/
  | badCommand
  /-- a codec state or operand with a step index above 88 (40_codec.md R93, R112, R113) -/
  | badStepIndex
  /-- event code 0 or above 8, or an information word its event does not have (60_exceptions.md R231) -/
  | badEvent
  /-- no configuration register has this number -/
  | badRegister
  /-- a number that is not a string of decimal digits -/
  | badNumber
  /-- a message that does not reach the listener: its topic is none of the two the block subscribes to, and it is none
  the block sends (R78) -/
  | otherTopic
  deriving DecidableEq, Repr

/-- What the environment offers at the block's input ports (20_memory.md R45, 60_exceptions.md R240, R253). -/
inductive Arrival where
  | resetIn
  | cmd (code : BitVec 2) (arg : SizeWord)
  | cfg (name : CfgName) (value : Nat)
  | msg (topic : Topic) (body : List Byte)
  | pcm (x : Sample)
  | pcmEof
  | pcmOverrun
  | dgram (bytes : List Byte)
  | tick (t : TimeWord)
  deriving DecidableEq, Repr

/-- The operations: one constructor per row of spec/opcode_table.json, in the table's order. -/
inductive Instr where
  | code0x0
  | code0x1
  | code0x2
  | code0x3
  | code0x4
  | code0x5
  | code0x6
  | code0x7
  | code0x8
  | code0x9
  | code0xA
  | code0xB
  | code0xC
  | code0xD
  | code0xE
  | code0xF
  | payloadByte (h l : Code)
  | packet (seq : Seq) (predictor : Sample) (stepIndex : StepIndex) (payload : List Byte)
  | req
  | free (freeBytes residentBytes : Nat)
  | start (fileSize : Nat)
  | chunk (index total : Nat) (data : List Byte)
  | endMsg
  | ack (index : Nat)
  | cmdReserved
  | streamStart (mode : Mode) (loop : Bool)
  | xferStart (size : SizeWord)
  | cancel
  | eventTxSendFail (info : SizeWord)
  | eventCaptureOverrun (info : SizeWord)
  | eventCapNoReply (info : SizeWord)
  | eventCapInsufficient (info : SizeWord)
  | eventAckTimeout (info : SizeWord)
  | eventMalformedReply (info : SizeWord)
  | eventCancelled (info : SizeWord)
  | eventDecReject (info : SizeWord)
  | recon (predictor : Sample) (stepIndex : StepIndex) (code : Code)
  | encSample (x : Sample)
  | decSample (code : Code)
  | encLoad (predictor : Sample) (stepIndex : StepIndex)
  | decLoad (predictor : Sample) (stepIndex : StepIndex)
  | framePush (x : Sample)
  | framePad
  | frameClose
  | encFrame (xs : List Sample)
  | pktDecode (bytes : List Byte)
  | paceAnchor
  | paceMark
  | paceGate
  | tick (t : TimeWord)
  | pcmIn (x : Sample)
  | pcmEof
  | loopRestart
  | sendFrame (result : SendResult)
  | pcmOverrun
  | cfgWrite (name : CfgName) (value : Nat)
  | msgInFree (body : List Byte)
  | capDecide
  | capTimeout
  | xferSendChunk
  | msgInAck (body : List Byte)
  | xferAckMatch
  | xferAckTimeout
  | reset
  deriving DecidableEq, Repr

/-- The source at which an operation's transaction stands (30_encoding.md R60 to R72, 20_memory.md R45). -/
def Instr.source : Instr → Source
  | .code0x0 => .n4
  | .code0x1 => .n4
  | .code0x2 => .n4
  | .code0x3 => .n4
  | .code0x4 => .n4
  | .code0x5 => .n4
  | .code0x6 => .n4
  | .code0x7 => .n4
  | .code0x8 => .n4
  | .code0x9 => .n4
  | .code0xA => .n4
  | .code0xB => .n4
  | .code0xC => .n4
  | .code0xD => .n4
  | .code0xE => .n4
  | .code0xF => .n4
  | .payloadByte _ _ => .pb
  | .packet _ _ _ _ => .pkt
  | .req => .msg .req
  | .free _ _ => .msg .resp
  | .start _ => .msg .data
  | .chunk _ _ _ => .msg .data
  | .endMsg => .msg .data
  | .ack _ => .msg .ack
  | .cmdReserved => .cmd
  | .streamStart _ _ => .cmd
  | .xferStart _ => .cmd
  | .cancel => .cmd
  | .eventTxSendFail _ => .event
  | .eventCaptureOverrun _ => .event
  | .eventCapNoReply _ => .event
  | .eventCapInsufficient _ => .event
  | .eventAckTimeout _ => .event
  | .eventMalformedReply _ => .event
  | .eventCancelled _ => .event
  | .eventDecReject _ => .event
  | .recon _ _ _ => .call .recon
  | .encSample _ => .call .encSample
  | .decSample _ => .call .decSample
  | .encLoad _ _ => .call .encLoad
  | .decLoad _ _ => .call .decLoad
  | .framePush _ => .call .framePush
  | .framePad => .call .framePad
  | .frameClose => .call .frameClose
  | .encFrame _ => .call .encFrame
  | .pktDecode _ => .dgramIn
  | .paceAnchor => .call .paceAnchor
  | .paceMark => .call .paceMark
  | .paceGate => .call .paceGate
  | .tick _ => .time
  | .pcmIn _ => .pcmSample
  | .pcmEof => .pcmEof
  | .loopRestart => .call .loopRestart
  | .sendFrame _ => .call .sendFrame
  | .pcmOverrun => .pcmOverrun
  | .cfgWrite _ _ => .cfg
  | .msgInFree _ => .msgIn .resp
  | .capDecide => .call .capDecide
  | .capTimeout => .call .capTimeout
  | .xferSendChunk => .call .xferSendChunk
  | .msgInAck _ => .msgIn .ack
  | .xferAckMatch => .call .xferAckMatch
  | .xferAckTimeout => .call .xferAckTimeout
  | .reset => .resetIn

end Sys2Proof
end

