-- ==== Sys2Proof/WellFormed.lean ====
section
/-! DEFINITION. Which operations are well formed: the operand restrictions the spec states and the operand
types do not already say. -/

namespace Sys2Proof

/-- A step index the codec may hold: 0 to 88 (10_state.md R15). -/
def StepIndex.legal (i : StepIndex) : Bool := decide (i.toNat ≤ 88)

/-- A number a message may carry: below `2^W_SIZE` (30_encoding.md R76). -/
def messageNumber (n : Nat) : Bool := decide (n < 2 ^ Config.wSize)

/-- The operand restrictions of the spec: step indices are 0 to 88 (R63, R93, R112, R113), message numbers are
below `2^W_SIZE` (R76), a chunk carries at least one byte (R83), an event carries the information word of
R231 (0 where the table says 0; 0 or 1 for a topic or a session), and `ENC_FRAME` is given at least one
sample (R138). -/
def Instr.wellFormed : Instr → Bool
  | .code0x0 => true
  | .code0x1 => true
  | .code0x2 => true
  | .code0x3 => true
  | .code0x4 => true
  | .code0x5 => true
  | .code0x6 => true
  | .code0x7 => true
  | .code0x8 => true
  | .code0x9 => true
  | .code0xA => true
  | .code0xB => true
  | .code0xC => true
  | .code0xD => true
  | .code0xE => true
  | .code0xF => true
  | .payloadByte _ _ => true
  | .packet _ _ i _ => StepIndex.legal i
  | .req => true
  | .free f r => messageNumber f && messageNumber r
  | .start n => messageNumber n
  | .chunk i t d => messageNumber i && messageNumber t && !d.isEmpty
  | .endMsg => true
  | .ack n => messageNumber n
  | .cmdReserved => true
  | .streamStart _ _ => true
  | .xferStart _ => true
  | .cancel => true
  | .eventTxSendFail _ => true
  | .eventCaptureOverrun info => decide (info = 0)
  | .eventCapNoReply info => decide (info = 0)
  | .eventCapInsufficient info => decide (info = 0)
  | .eventAckTimeout _ => true
  | .eventMalformedReply info => decide (info.toNat ≤ 1)
  | .eventCancelled info => decide (info.toNat ≤ 1)
  | .eventDecReject _ => true
  | .recon _ i _ => StepIndex.legal i
  | .encSample _ => true
  | .decSample _ => true
  | .encLoad _ i => StepIndex.legal i
  | .decLoad _ i => StepIndex.legal i
  | .framePush _ => true
  | .framePad => true
  | .frameClose => true
  | .encFrame xs => !xs.isEmpty
  | .pktDecode _ => true
  | .paceAnchor => true
  | .paceMark => true
  | .paceGate => true
  | .tick _ => true
  | .pcmIn _ => true
  | .pcmEof => true
  | .loopRestart => true
  | .sendFrame _ => true
  | .pcmOverrun => true
  | .cfgWrite _ _ => true
  | .msgInFree _ => true
  | .capDecide => true
  | .capTimeout => true
  | .xferSendChunk => true
  | .msgInAck _ => true
  | .xferAckMatch => true
  | .xferAckTimeout => true
  | .reset => true

end Sys2Proof
end

