-- ==== Sys2Proof/Machine/Operands.lean ====
section
/-! DEFINITION. The values operations compute on, without the state: the codec's arithmetic
(40_codec.md R93, R94), nibbles, payload and header bytes (20_memory.md R43, 30_encoding.md R62, R73, R74), decimal
numbers (R75, R76), message bodies (R66 to R71, R78), frame length, target time and chunk slicing
(41_packetizer.md R131, 42_pacer.md R152, 45_transfer.md R203). -/

namespace Sys2Proof.Machine

/-! ### The codec -/

/-- `clamp(v, lo, hi)` (00_scope.md R8). -/
def clamp (v lo hi : Int) : Int := if v < lo then lo else if v > hi then hi else v

/-- What `RECON` returns: the new predictor, the new step index and `delta` (R93). -/
structure Recon where
  predictor : Sample
  stepIndex : StepIndex
  delta : Nat
  deriving DecidableEq, Repr

/-- `delta` of R93: the step's eighth, and the step, its half and its quarter where the magnitude bits say,
each truncated on its own. -/
def reconDelta (step : Nat) (c : Code) : Nat :=
  step >>> 3
    + (if c.getLsbD 2 then step else 0)
    + (if c.getLsbD 1 then step >>> 1 else 0)
    + (if c.getLsbD 0 then step >>> 2 else 0)

/-- `RECON(p, i, c)` (R93): all sums are exact, then the predictor is clamped to `int16` and the index to
0 to 88. -/
def recon (p : Sample) (i : StepIndex) (c : Code) : Recon :=
  let delta := reconDelta (romStep i) c
  let q : Int := if c.getLsbD 3 then p.toInt - delta else p.toInt + delta
  { predictor := BitVec.ofInt 16 (clamp q (-32768) 32767)
    stepIndex := BitVec.ofInt 8 (clamp ((i.toNat : Int) + romIdx c) 0 88)
    delta := delta }

/-- The quantiser of `ENC_SAMPLE` (R94): the code of sample `x` against a predictor and a step size. -/
def quantise (p : Sample) (step : Nat) (x : Sample) : Code :=
  let diff : Int := x.toInt - p.toInt
  let sign : Nat := if diff < 0 then 1 else 0
  let d0 : Nat := diff.natAbs
  let m2 : Nat := if step ≤ d0 then 1 else 0
  let d1 : Nat := if step ≤ d0 then d0 - step else d0
  let m1 : Nat := if step >>> 1 ≤ d1 then 1 else 0
  let d2 : Nat := if step >>> 1 ≤ d1 then d1 - step >>> 1 else d1
  let m0 : Nat := if step >>> 2 ≤ d2 then 1 else 0
  BitVec.ofNat 4 (8 * sign + 4 * m2 + 2 * m1 + m0)

/-! ### Payload and packet bytes -/

/-- Nibble number `k` replaced in its byte: the high nibble when `k` is even, the low one when it is odd; the
other nibble is kept (20_memory.md R43, R50). -/
def putNibble (k : Nat) (c : Code) (old : Byte) : Byte :=
  if k % 2 = 0 then c ++ old.extractLsb' 0 4 else old.extractLsb' 4 4 ++ c

/-- Nibble number `k` read from its byte (30_encoding.md R74). -/
def getNibble (k : Nat) (b : Byte) : Code :=
  if k % 2 = 0 then b.extractLsb' 4 4 else b.extractLsb' 0 4

/-- `PAYLEN = ceil(FRAME_SAMPLES / 2)` (41_packetizer.md R134). -/
def paylen (frameSamples : Nat) : Nat := (frameSamples + 1) / 2

/-- A 16-bit value as two bytes, the more significant first (20_memory.md R46). -/
def bytes16 (x : BitVec 16) : List Byte := [x.extractLsb' 8 8, x.extractLsb' 0 8]

/-- A 32-bit value as four bytes, the most significant first (20_memory.md R46). -/
def bytes32 (x : BitVec 32) : List Byte :=
  [x.extractLsb' 24 8, x.extractLsb' 16 8, x.extractLsb' 8 8, x.extractLsb' 0 8]

/-- The packet header: sequence number, predictor in two's complement, step index (30_encoding.md R63, R73). -/
def headerBytes (seq : Seq) (p : Sample) (i : StepIndex) : List Byte :=
  bytes32 seq ++ bytes16 p ++ [i]

/-- Byte `k` of a byte string; only positions inside it are ever asked for. -/
def byteAt (b : List Byte) (k : Nat) : Byte := b.getD k 0

/-- The sequence number of a packet (R74). -/
def packetSeq (b : List Byte) : Seq :=
  BitVec.ofNat 32 ((byteAt b 0).toNat * 2 ^ 24 + (byteAt b 1).toNat * 2 ^ 16
    + (byteAt b 2).toNat * 2 ^ 8 + (byteAt b 3).toNat)

/-- The predictor of a packet, `sext_16` of bytes 4 and 5 (R74). -/
def packetPredictor (b : List Byte) : Sample :=
  BitVec.ofNat 16 ((byteAt b 4).toNat * 256 + (byteAt b 5).toNat)

/-- The step index of a packet: byte 6 (R74). -/
def packetStepIndex (b : List Byte) : StepIndex := byteAt b 6

/-- Code number `k` of a packet's payload (R74). -/
def packetCode (b : List Byte) (k : Nat) : Code := getNibble k (byteAt b (7 + k >>> 1))

/-- The first `n` codes of a packet, in order (R74, R142). -/
def packetCodes (b : List Byte) (n : Nat) : List Code := (List.range n).map (packetCode b)

/-! ### Decimal numbers -/

/-- The ASCII byte of a decimal digit. -/
def digitByte (d : Nat) : Byte := BitVec.ofNat 8 (48 + d)

/-- The digits of `n` in front of `acc`, least significant last; the fuel bounds their number. -/
def decDigits : Nat → Nat → List Byte → List Byte
  | 0, _, acc => acc
  | fuel + 1, n, acc =>
    if n / 10 = 0 then digitByte (n % 10) :: acc
    else decDigits fuel (n / 10) (digitByte (n % 10) :: acc)

/-- `dec(n)`: the shortest decimal ASCII spelling (30_encoding.md R75). -/
def dec (n : Nat) : List Byte := decDigits (n + 1) n []

/-- An ASCII decimal digit, `30` to `39` (R76). -/
def isDigit (b : Byte) : Bool := decide (48 ≤ b.toNat) && decide (b.toNat ≤ 57)

/-- The decimal value of a string of digits. -/
def decValue (b : List Byte) : Nat := b.foldl (fun v d => v * 10 + (d.toNat - 48)) 0

/-- The value of one or more digits, of any size. -/
def undecNat (b : List Byte) : Option Nat :=
  if !b.isEmpty && b.all isDigit then some (decValue b) else none

/-- `undec(b)`: one or more digits whose value is below `2^W_SIZE`, leading zeros accepted (R76). -/
def undec (b : List Byte) : Option Nat :=
  match undecNat b with
  | some n => if n < 2 ^ Config.wSize then some n else none
  | none => none

/-! ### Message bodies -/

/-- The byte `:`. -/
def colon : Byte := 0x3A

/-- `"FREE:"` (R67). -/
def litFree : List Byte := [0x46, 0x52, 0x45, 0x45, 0x3A]

/-- `"START:"` (R68). -/
def litStart : List Byte := [0x53, 0x54, 0x41, 0x52, 0x54, 0x3A]

/-- `"CHUNK:"` (R69). -/
def litChunk : List Byte := [0x43, 0x48, 0x55, 0x4E, 0x4B, 0x3A]

/-- `"END"` (R70). -/
def litEnd : List Byte := [0x45, 0x4E, 0x44]

/-- `"ACK:"` (R71). -/
def litAck : List Byte := [0x41, 0x43, 0x4B, 0x3A]

/-- The body of `FREE` (R67). -/
def freeBody (freeBytes residentBytes : Nat) : List Byte :=
  litFree ++ dec freeBytes ++ [colon] ++ dec residentBytes

/-- The body of `START` (R68). -/
def startBody (fileSize : Nat) : List Byte := litStart ++ dec fileSize

/-- The body of `CHUNK`: three fields, the data raw (R69). -/
def chunkBody (index total : Nat) (data : List Byte) : List Byte :=
  litChunk ++ dec index ++ [colon] ++ dec total ++ [colon] ++ data

/-- The body of `ACK` (R71). -/
def ackBody (index : Nat) : List Byte := litAck ++ dec index

/-- What follows a given beginning, if the byte string begins so. -/
def afterPrefix : List Byte → List Byte → Option (List Byte)
  | [], b => some b
  | _ :: _, [] => none
  | x :: xs, y :: ys => if x = y then afterPrefix xs ys else none

/-- The bytes before the first `:` and those after it. -/
def splitColon : List Byte → Option (List Byte × List Byte)
  | [] => none
  | b :: rest =>
    if b = colon then some ([], rest)
    else match splitColon rest with
      | some (d, r) => some (b :: d, r)
      | none => none

/-- A well-formed `FREE` body read: free bytes and resident bytes (R78, 44_capacity.md R187). -/
def parseFree (body : List Byte) : Option (Nat × Nat) :=
  match afterPrefix litFree body with
  | none => none
  | some r =>
    match splitColon r with
    | none => none
    | some (d1, d2) =>
      match undec d1, undec d2 with
      | some f, some g => some (f, g)
      | _, _ => none

/-- A well-formed `ACK` body read: the index (R78, 45_transfer.md R206). -/
def parseAck (body : List Byte) : Option Nat :=
  match afterPrefix litAck body with
  | none => none
  | some d => undec d

/-- A `START` body read (R83). -/
def parseStart (body : List Byte) : Option Nat :=
  match afterPrefix litStart body with
  | none => none
  | some d => undec d

/-- A `CHUNK` body read: index, total and at least one byte of data (R69, R83). -/
def parseChunk (body : List Byte) : Option (Nat × Nat × List Byte) :=
  match afterPrefix litChunk body with
  | none => none
  | some r =>
    match splitColon r with
    | none => none
    | some (d1, r2) =>
      match splitColon r2 with
      | none => none
      | some (d2, data) =>
        match undec d1, undec d2 with
        | some i, some t => if data.isEmpty then none else some (i, t, data)
        | _, _ => none

/-! ### Frame length, target time, chunks -/

/-- `FRAME_SAMPLES = floor(SAMPLE_RATE * FRAME_MS / 1000)` (41_packetizer.md R131). -/
def frameSamplesOf (sampleRate frameMs : Nat) : Nat := sampleRate * frameMs / 1000

/-- `target(k)` (42_pacer.md R152): the whole product first, one floor at the end. While `PACE_DEN` is 0 the
quotient has no value: free (log 9). -/
def paceTarget (tickHz start k frameMs num den : Nat) : Nat :=
  if den = 0 then (Config.targetOverZero start k).toNat
  else start + k * frameMs * num * tickHz / (den * 1000)

/-- `ceil(S / C)`: the number of chunks (45_transfer.md R203). -/
def chunkCount (size chunkSize : Nat) : Nat := (size + chunkSize - 1) / chunkSize

/-- The byte address at which the chunk with index `idx` starts (45_transfer.md R203). -/
def chunkOffset (idx idx0 chunkSize : Nat) : Nat := (idx - idx0) * chunkSize

/-- The number of bytes of the chunk that starts at `off` (45_transfer.md R203). -/
def chunkLength (chunkSize size off : Nat) : Nat := min chunkSize (size - off)

end Sys2Proof.Machine
end

