-- ==== Sys2Proof/Decode.lean ====
section
/-! DEFINITION. The decoder, total on any bytes at any source and rejecting by name, and after it the encoder,
written from the same encodings (30_encoding.md R61 to R74, 60_exceptions.md R231). Operations that have no
encoding of their own are named by their source and carry their operands most significant byte first
(log 12). -/

namespace Sys2Proof

/-- The operation of a 4-bit code (40_codec.md R96 to R111). -/
def codeInstr (c : Nat) : Option Instr :=
  match c with
  | 0 => some .code0x0
  | 1 => some .code0x1
  | 2 => some .code0x2
  | 3 => some .code0x3
  | 4 => some .code0x4
  | 5 => some .code0x5
  | 6 => some .code0x6
  | 7 => some .code0x7
  | 8 => some .code0x8
  | 9 => some .code0x9
  | 10 => some .code0xA
  | 11 => some .code0xB
  | 12 => some .code0xC
  | 13 => some .code0xD
  | 14 => some .code0xE
  | 15 => some .code0xF
  | _ => none

/-- The event of a code and its information word (60_exceptions.md R231). -/
def eventInstr (code : Nat) (info : SizeWord) : Option Instr :=
  match code with
  | 1 => some (.eventTxSendFail info)
  | 2 => some (.eventCaptureOverrun info)
  | 3 => some (.eventCapNoReply info)
  | 4 => some (.eventCapInsufficient info)
  | 5 => some (.eventAckTimeout info)
  | 6 => some (.eventMalformedReply info)
  | 7 => some (.eventCancelled info)
  | 8 => some (.eventDecReject info)
  | _ => none

/-- The command of a command word `(code, arg)` (30_encoding.md R72): `arg[0]` is the mode, `arg[1]` the loop
flag of `STREAM_START`; the other bits are ignored. -/
def commandInstr (code : BitVec 2) (arg : SizeWord) : Instr :=
  if code = 0 then .cmdReserved
  else if code = 1 then
    .streamStart (if arg.getLsbD 0 then .live else .file) (arg.getLsbD 1)
  else if code = 2 then .xferStart arg
  else .cancel

/-- The number that stands for a configuration register in a transaction (the model's own, log 12). -/
def cfgNumber : CfgName → Byte
  | .destAddr => 0
  | .destPort => 1
  | .sampleRate => 2
  | .channels => 3
  | .frameMs => 4
  | .chunkSize => 5
  | .ackTimeout => 6
  | .capTimeout => 7
  | .paceNum => 8
  | .paceDen => 9
  | .idx0 => 10

/-- The register a number stands for. -/
def cfgOfNumber (b : Byte) : Option CfgName :=
  match b.toNat with
  | 0 => some .destAddr
  | 1 => some .destPort
  | 2 => some .sampleRate
  | 3 => some .channels
  | 4 => some .frameMs
  | 5 => some .chunkSize
  | 6 => some .ackTimeout
  | 7 => some .capTimeout
  | 8 => some .paceNum
  | 9 => some .paceDen
  | 10 => some .idx0
  | _ => none

/-- A 16-bit operand from its two bytes, the more significant first. -/
def word16 (hi lo : Byte) : BitVec 16 := BitVec.ofNat 16 (hi.toNat * 256 + lo.toNat)

/-- A 32-bit operand from its four bytes, the most significant first. -/
def word32 (a b c d : Byte) : BitVec 32 :=
  BitVec.ofNat 32 (a.toNat * 2 ^ 24 + b.toNat * 2 ^ 16 + c.toNat * 2 ^ 8 + d.toNat)

/-- Samples from pairs of bytes. -/
def samplesOfBytes : List Byte → Option (List Sample)
  | [] => some []
  | [_] => none
  | hi :: lo :: rest =>
    match samplesOfBytes rest with
    | some xs => some (word16 hi lo :: xs)
    | none => none

/-- A byte that holds a 4-bit code and four zero bits above it. -/
def codeOfByte (b : Byte) : Option Code :=
  if b.toNat < 16 then some (b.extractLsb' 0 4) else none

/-- An operation, or the rejection where there is none. -/
def orReject (r : Reject) : Option Instr → Except Reject Instr
  | some i => .ok i
  | none => .error r

/-- An operation accepted only if it is well formed. -/
def ifWellFormed (r : Reject) (i : Instr) : Except Reject Instr :=
  if i.wellFormed then .ok i else .error r

/-- Format `N4` (R61): one byte, the code in bits 3:0. -/
def decodeN4 : List Byte → Except Reject Instr
  | [b] => orReject .badNibble (codeInstr b.toNat)
  | _ => .error .badLength

/-- Format `PB` (R62): one byte, the earlier code in bits 7:4. -/
def decodePB : List Byte → Except Reject Instr
  | [b] => .ok (.payloadByte (b.extractLsb' 4 4) (b.extractLsb' 0 4))
  | _ => .error .badLength

/-- Format `PKT` (R63, R74): seven header bytes and the payload. What has no header or no legal step index is no
packet but a datagram still, which `PKT_DECODE` rejects (R77, log 14). -/
def decodePkt (b : List Byte) : Instr :=
  if b.length < 7 ∨ 88 < (Machine.packetStepIndex b).toNat then .pktDecode b
  else .packet (Machine.packetSeq b) (Machine.packetPredictor b) (Machine.packetStepIndex b) (b.drop 7)

/-- Format `MSG` (R65 to R71, R83): the body by the topic that carries it. A body on the listener's two topics that
is none of its shapes is a malformed message, which the listener counts; on the other two it is ignored
(R78). -/
def decodeMsg (topic : Topic) (body : List Byte) : Except Reject Instr :=
  match topic with
  | .req => if body = Config.reqToken then .ok .req else .error .otherTopic
  | .resp => .ok (((Machine.parseFree body).map fun p => .free p.1 p.2).getD (.msgInFree body))
  | .data =>
    if body = Machine.litEnd then .ok .endMsg
    else match Machine.parseStart body with
      | some n => .ok (.start n)
      | none => orReject .otherTopic ((Machine.parseChunk body).map fun p => .chunk p.1 p.2.1 p.2.2)
  | .ack => .ok (((Machine.parseAck body).map .ack).getD (.msgInAck body))
  | .other => .error .otherTopic

/-- Format `CMD` (R72): the code in the first byte, then the argument. -/
def decodeCmd : List Byte → Except Reject Instr
  | [k, a, b, c, d] =>
    if k.toNat < 4 then .ok (commandInstr (k.extractLsb' 0 2) (word32 a b c d)) else .error .badCommand
  | _ => .error .badLength

/-- An `EVENT` transaction (60_exceptions.md R230, R231): the code, then the information word. -/
def decodeEvent : List Byte → Except Reject Instr
  | [k, a, b, c, d] =>
    match eventInstr k.toNat (word32 a b c d) with
    | some i => ifWellFormed .badEvent i
    | none => .error .badEvent
  | _ => .error .badLength

/-- A `CFG_WRITE` (43_transport.md R178): the register, then the value in decimal digits. -/
def decodeCfg : List Byte → Except Reject Instr
  | [] => .error .badLength
  | r :: digits =>
    match cfgOfNumber r, Machine.undecNat digits with
    | some n, some v => .ok (.cfgWrite n v)
    | none, _ => .error .badRegister
    | some _, none => .error .badNumber

/-- A message at the port `MSG_IN`: the listener takes every body on its two topics, well formed or not
(30_encoding.md R78). -/
def decodeMsgIn (topic : Topic) (body : List Byte) : Except Reject Instr :=
  match topic with
  | .resp => .ok (.msgInFree body)
  | .ack => .ok (.msgInAck body)
  | .req => .error .otherTopic
  | .data => .error .otherTopic
  | .other => .error .otherTopic

/-- The operand of `TICK`: eight bytes. -/
def decodeTime : List Byte → Except Reject Instr
  | [a, b, c, d, e, f, g, h] =>
    .ok (.tick (BitVec.ofNat 64 ((word32 a b c d).toNat * 2 ^ 32 + (word32 e f g h).toNat)))
  | _ => .error .badLength

/-- An operation without operands. -/
def decodeBare (i : Instr) : List Byte → Except Reject Instr
  | [] => .ok i
  | _ => .error .badLength

/-- An operation that carries one sample. -/
def decodeSampleOp (f : Sample → Instr) : List Byte → Except Reject Instr
  | [hi, lo] => .ok (f (word16 hi lo))
  | _ => .error .badLength

/-- An operation that carries a codec state. -/
def decodeLoadOp (f : Sample → StepIndex → Instr) : List Byte → Except Reject Instr
  | [hi, lo, i] => ifWellFormed .badStepIndex (f (word16 hi lo) i)
  | _ => .error .badLength

/-- An operation that carries one code. -/
def decodeCodeOp (f : Code → Instr) : List Byte → Except Reject Instr
  | [b] => orReject .badNibble ((codeOfByte b).map f)
  | _ => .error .badLength

/-- The operands of `RECON`: predictor, step index, code. -/
def decodeReconOp : List Byte → Except Reject Instr
  | [hi, lo, i, b] =>
    match codeOfByte b with
    | some c => ifWellFormed .badStepIndex (.recon (word16 hi lo) i c)
    | none => .error .badNibble
  | _ => .error .badLength

/-- The operand of `SEND_FRAME`: 0 for `ok`, 1 for `fail`. -/
def decodeResultOp : List Byte → Except Reject Instr
  | [b] =>
    if b = 0 then .ok (.sendFrame .ok)
    else if b = 1 then .ok (.sendFrame .fail)
    else .error .badNumber
  | _ => .error .badLength

/-- The operand of `ENC_FRAME`: at least one sample. -/
def decodeFrameOp (b : List Byte) : Except Reject Instr :=
  match samplesOfBytes b with
  | some xs => ifWellFormed .badLength (.encFrame xs)
  | none => .error .badLength

/-- A directly invoked operation. -/
def decodeCall (op : CallOp) (b : List Byte) : Except Reject Instr :=
  match op with
  | .recon => decodeReconOp b
  | .encSample => decodeSampleOp .encSample b
  | .decSample => decodeCodeOp .decSample b
  | .encLoad => decodeLoadOp .encLoad b
  | .decLoad => decodeLoadOp .decLoad b
  | .framePush => decodeSampleOp .framePush b
  | .framePad => decodeBare .framePad b
  | .frameClose => decodeBare .frameClose b
  | .encFrame => decodeFrameOp b
  | .paceAnchor => decodeBare .paceAnchor b
  | .paceMark => decodeBare .paceMark b
  | .paceGate => decodeBare .paceGate b
  | .loopRestart => decodeBare .loopRestart b
  | .sendFrame => decodeResultOp b
  | .capDecide => decodeBare .capDecide b
  | .capTimeout => decodeBare .capTimeout b
  | .xferSendChunk => decodeBare .xferSendChunk b
  | .xferAckMatch => decodeBare .xferAckMatch b
  | .xferAckTimeout => decodeBare .xferAckTimeout b

/-- The decoder: the operation of a transaction, or why there is none. -/
def decode (t : Transaction) : Except Reject Instr :=
  match t.source with
  | .n4 => decodeN4 t.bytes
  | .pb => decodePB t.bytes
  | .pkt => .ok (decodePkt t.bytes)
  | .msg topic => decodeMsg topic t.bytes
  | .cmd => decodeCmd t.bytes
  | .event => decodeEvent t.bytes
  | .resetIn => decodeBare .reset t.bytes
  | .cfg => decodeCfg t.bytes
  | .msgIn topic => decodeMsgIn topic t.bytes
  | .pcmSample => decodeSampleOp .pcmIn t.bytes
  | .pcmEof => decodeBare .pcmEof t.bytes
  | .pcmOverrun => decodeBare .pcmOverrun t.bytes
  | .dgramIn => .ok (.pktDecode t.bytes)
  | .time => decodeTime t.bytes
  | .call op => decodeCall op t.bytes

/-! ### The encoder -/

/-- A code in the low half of a byte. -/
def codeByte (c : Code) : Byte := (0 : BitVec 4) ++ c

/-- The bytes of an event transaction (R230, R231). -/
def eventBytes (code : Byte) (info : SizeWord) : List Byte := code :: Machine.bytes32 info

/-- The bytes of a command word (R72). -/
def cmdBytes (code : Byte) (arg : SizeWord) : List Byte := code :: Machine.bytes32 arg

/-- The argument of `STREAM_START` (R72). -/
def streamArg (mode : Mode) (loop : Bool) : SizeWord :=
  BitVec.ofNat 32 ((if mode = .live then 1 else 0) + (if loop then 2 else 0))

/-- The bytes an operation is written as at its source. -/
def encodeBytes : Instr → List Byte
  | .code0x0 => [0x0]
  | .code0x1 => [0x1]
  | .code0x2 => [0x2]
  | .code0x3 => [0x3]
  | .code0x4 => [0x4]
  | .code0x5 => [0x5]
  | .code0x6 => [0x6]
  | .code0x7 => [0x7]
  | .code0x8 => [0x8]
  | .code0x9 => [0x9]
  | .code0xA => [0xA]
  | .code0xB => [0xB]
  | .code0xC => [0xC]
  | .code0xD => [0xD]
  | .code0xE => [0xE]
  | .code0xF => [0xF]
  | .payloadByte h l => [h ++ l]
  | .packet seq p i payload => Machine.headerBytes seq p i ++ payload
  | .req => Config.reqToken
  | .free f r => Machine.freeBody f r
  | .start n => Machine.startBody n
  | .chunk i t d => Machine.chunkBody i t d
  | .endMsg => Machine.litEnd
  | .ack n => Machine.ackBody n
  | .cmdReserved => cmdBytes 0 0
  | .streamStart mode loop => cmdBytes 1 (streamArg mode loop)
  | .xferStart size => cmdBytes 2 size
  | .cancel => cmdBytes 3 0
  | .eventTxSendFail info => eventBytes 1 info
  | .eventCaptureOverrun info => eventBytes 2 info
  | .eventCapNoReply info => eventBytes 3 info
  | .eventCapInsufficient info => eventBytes 4 info
  | .eventAckTimeout info => eventBytes 5 info
  | .eventMalformedReply info => eventBytes 6 info
  | .eventCancelled info => eventBytes 7 info
  | .eventDecReject info => eventBytes 8 info
  | .recon p i c => Machine.bytes16 p ++ [i, codeByte c]
  | .encSample x => Machine.bytes16 x
  | .decSample c => [codeByte c]
  | .encLoad p i => Machine.bytes16 p ++ [i]
  | .decLoad p i => Machine.bytes16 p ++ [i]
  | .framePush x => Machine.bytes16 x
  | .framePad => []
  | .frameClose => []
  | .encFrame xs => xs.flatMap Machine.bytes16
  | .pktDecode b => b
  | .paceAnchor => []
  | .paceMark => []
  | .paceGate => []
  | .tick t => Machine.bytes32 (t.extractLsb' 32 32) ++ Machine.bytes32 (t.extractLsb' 0 32)
  | .pcmIn x => Machine.bytes16 x
  | .pcmEof => []
  | .loopRestart => []
  | .sendFrame .ok => [0]
  | .sendFrame .fail => [1]
  | .pcmOverrun => []
  | .cfgWrite n v => cfgNumber n :: Machine.dec v
  | .msgInFree body => body
  | .capDecide => []
  | .capTimeout => []
  | .xferSendChunk => []
  | .msgInAck body => body
  | .xferAckMatch => []
  | .xferAckTimeout => []
  | .reset => []

/-- The transaction of an operation. -/
def encode (i : Instr) : Transaction := { source := i.source, bytes := encodeBytes i }

/-! ### Words of the opcode table -/

/-- `n` bytes of `w`, the least significant first: the order in which spec/opcode_table.json numbers the bits
of an encoding, its first byte in bits 7:0. -/
def tableBytes : Nat → Nat → List Byte
  | 0, _ => []
  | n + 1, w => BitVec.ofNat 8 w :: tableBytes n (w / 256)

/-- The transaction of a word of the opcode table (log 13): at most 8 bits are an `N4` code or, above 15, a
payload byte; at most 40 bits a command word, its code above its 32-bit argument; more a packet. -/
def tableTransaction (nbits w : Nat) : Transaction :=
  if nbits ≤ 8 then
    if w < 16 then { source := .n4, bytes := [BitVec.ofNat 8 w] }
    else { source := .pb, bytes := tableBytes 1 w }
  else if nbits ≤ 40 then
    { source := .cmd, bytes := BitVec.ofNat 8 (w / 2 ^ 32) :: Machine.bytes32 (BitVec.ofNat 32 w) }
  else { source := .pkt, bytes := tableBytes ((nbits + 7) / 8) w }

/-- The operation the decoder reads from a word of the opcode table. -/
def decodeTableWord (nbits w : Nat) : Option Instr :=
  match decode (tableTransaction nbits w) with
  | .ok i => some i
  | .error _ => none

end Sys2Proof
end

