-- ==== Sys2Proof/Machine/State.lean ====
section
/-! DEFINITION. The state of the block as plain data (10_state.md R13 to R31), the inputs a closed machine must
hold (R35), the model's own fields, the reset state (R36), and the reasons a step can stop. -/

namespace Sys2Proof.Machine

/-- A byte memory in canonical form: addresses strictly rising, no byte equal to what an unlisted address
reads as. `PKT.payload` (20_memory.md R43) and `FILE` (R44) are two of them. -/
abbrev Mem := List Host.Cell

/-- What an unlisted address reads as: 0. For `PKT.payload` this is the cleared buffer of R19 and R43; for `FILE`
it is a DESIGN CHOICE (log 8). -/
def Mem.unlisted : Byte := 0

/-- The canonical form holds. -/
def Mem.wf : Mem → Bool
  | [] => true
  | (a, b) :: rest => decide (b ≠ Mem.unlisted) && rest.all (fun c => decide (a < c.1)) && Mem.wf rest

/-- A codec state `(predictor, step_index)`: `ENC` (R14, R15) and `DEC` (R16) are two separate ones. -/
structure Codec where
  predictor : Sample
  stepIndex : StepIndex
  deriving DecidableEq, Repr

/-- The packetizer's registers (R17, R18, R19). -/
structure Pkt where
  seq : Seq
  hdrPredictor : Sample
  hdrStepIndex : StepIndex
  pos : Nat
  payload : Mem
  out : Option (List Byte)
  deriving DecidableEq, Repr

/-- The pacer's registers (R21). -/
structure Pacer where
  startTime : Nat
  framesSent : Nat
  targetTime : Nat
  deriving DecidableEq, Repr

/-- `STX.state` (R22). -/
inductive StxState where
  | idle
  | filling
  | ready
  | loopWait
  deriving DecidableEq, Repr

/-- `STX.cfg`, the configuration a streaming session latched (R31). -/
structure StxCfg where
  frameSamples : Nat
  frameMs : Nat
  paceNum : Nat
  paceDen : Nat
  destAddr : Nat
  destPort : Nat
  deriving DecidableEq, Repr

/-- The streaming transport's registers and counters (R22, R23, R31). -/
structure Stx where
  state : StxState
  mode : Mode
  loop : Bool
  eof : Bool
  txFailCount : Nat
  overrunCount : Nat
  cfg : StxCfg
  deriving DecidableEq, Repr

/-- The listener's cells and its counter (R23, R24, R25). A capacity reply is `(free, resident)`. -/
structure Lsn where
  capReply : Option (Nat × Nat)
  lastAck : Option Nat
  malformedCount : Nat
  deriving DecidableEq, Repr

/-- `XFER.state` (R26). -/
inductive XferState where
  | idle
  | negotiating
  | sendingChunk
  | awaitingAck
  | complete
  | abortedInsufficientSpace
  | abortedNoReply
  | abortedTimeout
  | abortedCancelled
  deriving DecidableEq, Repr

/-- `XFER.cfg`, the configuration a transfer session latched (R27, R31). -/
structure XferCfg where
  chunkSize : Nat
  ackTimeout : Nat
  capTimeout : Nat
  idx0 : Nat
  deriving DecidableEq, Repr

/-- The transfer unit's registers (R26, R27, R28). -/
structure Xfer where
  state : XferState
  idx : Nat
  total : Nat
  fileSize : Nat
  deadline : Nat
  lastAcked : Option Nat
  cfg : XferCfg
  deriving DecidableEq, Repr

/-- The configuration registers, `none` until written (R29, 70_reset_and_hazards.md R262). -/
structure CfgRegs where
  destAddr : Option Nat
  destPort : Option Nat
  sampleRate : Option Nat
  channels : Option Nat
  frameMs : Option Nat
  chunkSize : Option Nat
  ackTimeout : Option Nat
  capTimeout : Option Nat
  paceNum : Option Nat
  paceDen : Option Nat
  idx0 : Option Nat
  deriving DecidableEq, Repr

/-- One transaction on an output port (20_memory.md R45): a datagram to its destination (R177), a message on a
topic (R65), an event with its information word (R230), decoded samples with their sequence number
(R140), a rewind request (R166). -/
inductive Output where
  | dgram (addr port : Nat) (bytes : List Byte)
  | msg (topic : Topic) (body : List Byte)
  | event (code : BitVec 4) (info : SizeWord)
  | pcmOut (seq : Seq) (samples : List Sample)
  | pcmRewind
  deriving DecidableEq, Repr

/-- What a directly invoked function returns (the model's own field, log 3). -/
inductive Ret where
  | none
  | code (c : Code)
  | sample (x : Sample)
  | samples (xs : List Sample)
  | recon (predictor : Sample) (stepIndex : StepIndex) (delta : Nat)
  | gate (isOpen : Bool)
  deriving DecidableEq, Repr

/-- The events of 60_exceptions.md R231. -/
inductive Event where
  | txSendFail
  | captureOverrun
  | capNoReply
  | capInsufficient
  | ackTimeout
  | malformedReply
  | cancelled
  | decReject
  deriving DecidableEq, Repr

/-- What the sample port remembers of a file-mode session (the model's own field, log 35): the samples taken in its
first pass, in order, and, in a later pass, those that the source has yet to supply again
(70_reset_and_hazards.md R268). -/
structure Playback where
  pass : List Sample
  replay : Option (List Sample)
  deriving DecidableEq, Repr

/-- The state: the spec's registers (`cfg` to `xfer`, with `DEC.reject_count` in `decRejects`), the inputs `now`
(R30) and `FILE` (R44), and the model's own fields: the outputs emitted so far, newest first (log 2); the last
function result (log 3); what the sample port remembers (log 35); the counter of the free port results (log 4); the
issued operations still to run and the arrivals the environment offers (log 1, log 24). -/
structure State where
  cfg : CfgRegs
  enc : Codec
  dec : Codec
  decRejects : Nat
  pkt : Pkt
  pacer : Pacer
  stx : Stx
  lsn : Lsn
  xfer : Xfer
  now : Nat
  file : Mem
  outputs : List Output
  ret : Ret
  playback : Playback
  sends : Nat
  script : List Transaction
  inbox : List Arrival
  deriving DecidableEq, Repr

/-- Why the machine stops without a further state: no step exists. Both are safe: the block has no step
there and the model has none. -/
inductive Fault where
  /-- The operation's guard is false and its rule does not say that it is then ignored: "an operation
  whose guard is false has no step" (00_scope.md R10). Raised by a directly invoked function or internal step.
  Safe. -/
  | notEnabled (mnemonic : String)
  /-- A sample or end mark at the sample port while it is not ready: the event is not consumed
  (43_transport.md R168, R169, 93_implementation_defined.md U22). Raised by `PCM_IN` and `PCM_EOF`. Safe. -/
  | portNotReady
  deriving DecidableEq, Repr

/-- Why the model has no step: the situations the spec calls refused (00_scope.md R12), each by name. All are
safe. -/
inductive Refusal where
  /-- The instruction of this mnemonic has no meaning yet. Raised by `exec`. Safe. -/
  | notModelled (mnemonic : String)
  /-- An issued transaction that is no operation's: "The block has the operations of this table and no others"
  (30_encoding.md R60), and one step is one of them (00_scope.md R11). Raised by the step. Safe (log 36). -/
  | undecodable (reason : Reject)
  /-- `STREAM_START` with an unwritten register (43_transport.md R167). Safe. -/
  | streamConfigUnwritten
  /-- `STREAM_START` with an illegal register (R167, 41_packetizer.md R131). Safe. -/
  | streamConfigIllegal
  /-- `XFER_START` with an unwritten register (45_transfer.md R202). Safe. -/
  | xferConfigUnwritten
  /-- `XFER_START` with an illegal register (R202). Safe. -/
  | xferConfigIllegal
  /-- A chunk index that would not fit `W_SIZE` bits (45_transfer.md R203, 93_implementation_defined.md U18). Raised by
  `XFER_START` and `XFER_ACK_MATCH`. Safe. -/
  | chunkIndexOverflow
  /-- A deadline or target time at or above `2^W_TIME` (70_reset_and_hazards.md R274). Raised by `XFER_START`,
  `XFER_SEND_CHUNK`, `PACE_MARK` and `SEND_FRAME`. Safe. -/
  | timeOverflow
  /-- `TICK` to an earlier time (42_pacer.md R160). Safe. -/
  | backwardTime
  /-- `PKT_DECODE` or `PACKET` while `CFG.SAMPLE_RATE` or `CFG.FRAME_MS` is unwritten (41_packetizer.md R140). Safe. -/
  | decodeConfigUnwritten
  /-- `PKT_DECODE` or `PACKET` with a frame length of 0 (R140). Safe. -/
  | frameLengthZero
  /-- The codec on a step index above 88 (93_implementation_defined.md U14, 20_memory.md R41). Raised by the codec's
  operations and those that encode. Safe. -/
  | invalidCodecState
  /-- A file-mode source that does not supply the samples of its first pass again after `PCM_REWIND`
  (93_implementation_defined.md U19, 70_reset_and_hazards.md R268). Raised by `PCM_IN` and `PCM_EOF`. Safe (log 35). -/
  | sourceNotReplayed
  /-- A session state R34 excludes: a sample into a full frame, `READY` without a packet, a chunk outside the file.
  Raised by `PCM_IN`, `PCM_EOF`, `SEND_FRAME`, `XFER_SEND_CHUNK`. Safe (log 21). -/
  | invalidSessionState
  deriving DecidableEq, Repr

/-- The outcome of one step of this machine. -/
abbrev Answer := Host.Outcome State Fault Refusal

/-- The reset state: the values of 10_state.md R36. The latched records, `now` and the model's own fields have no
value there: logs 2 to 8 and 35. -/
def State.reset : State where
  cfg :=
    { destAddr := none, destPort := none, sampleRate := none, channels := none, frameMs := none
      chunkSize := none, ackTimeout := none, capTimeout := none, paceNum := none, paceDen := none
      idx0 := none }
  enc := { predictor := Config.encInitPredictor, stepIndex := Config.encInitStepIndex }
  dec := { predictor := 0, stepIndex := 0 }
  decRejects := 0
  pkt :=
    { seq := Config.seqInit, hdrPredictor := 0, hdrStepIndex := 0, pos := 0, payload := [], out := none }
  pacer := { startTime := 0, framesSent := 0, targetTime := 0 }
  stx :=
    { state := .idle, mode := .file, loop := false, eof := false, txFailCount := 0, overrunCount := 0
      cfg :=
        { frameSamples := 0, frameMs := 0, paceNum := 0, paceDen := 0, destAddr := 0, destPort := 0 } }
  lsn := { capReply := none, lastAck := none, malformedCount := 0 }
  xfer :=
    { state := .idle, idx := 0, total := 0, fileSize := 0, deadline := 0, lastAcked := none
      cfg := { chunkSize := 0, ackTimeout := 0, capTimeout := 0, idx0 := 0 } }
  now := 0
  file := []
  outputs := []
  ret := .none
  playback := { pass := [], replay := none }
  sends := 0
  script := []
  inbox := []

/-! ### Updates, one per field -/

/-- The state with another `cfg`. -/
def State.withCfg (s : State) (v : CfgRegs) : State := { s with cfg := v }

/-- The state with another `enc`. -/
def State.withEnc (s : State) (v : Codec) : State := { s with enc := v }

/-- The state with another `dec`. -/
def State.withDec (s : State) (v : Codec) : State := { s with dec := v }

/-- The state with another `decRejects`. -/
def State.withDecRejects (s : State) (v : Nat) : State := { s with decRejects := v }

/-- The state with another `pkt`. -/
def State.withPkt (s : State) (v : Pkt) : State := { s with pkt := v }

/-- The state with another `pacer`. -/
def State.withPacer (s : State) (v : Pacer) : State := { s with pacer := v }

/-- The state with another `stx`. -/
def State.withStx (s : State) (v : Stx) : State := { s with stx := v }

/-- The state with another `lsn`. -/
def State.withLsn (s : State) (v : Lsn) : State := { s with lsn := v }

/-- The state with another `xfer`. -/
def State.withXfer (s : State) (v : Xfer) : State := { s with xfer := v }

/-- The state with another `now`. -/
def State.withNow (s : State) (v : Nat) : State := { s with now := v }

/-- The state with another `file`. -/
def State.withFile (s : State) (v : Mem) : State := { s with file := v }

/-- The state with another `outputs`. -/
def State.withOutputs (s : State) (v : List Output) : State := { s with outputs := v }

/-- The state with another `ret`. -/
def State.withRet (s : State) (v : Ret) : State := { s with ret := v }

/-- The state with another `playback`. -/
def State.withPlayback (s : State) (v : Playback) : State := { s with playback := v }

/-- The state with another `sends`. -/
def State.withSends (s : State) (v : Nat) : State := { s with sends := v }

/-- The state with another `script`. -/
def State.withScript (s : State) (v : List Transaction) : State := { s with script := v }

/-- The state with another `inbox`. -/
def State.withInbox (s : State) (v : List Arrival) : State := { s with inbox := v }

end Sys2Proof.Machine
end

