-- ==== Sys2Proof/Machine/Flags.lean ====
section
/-! DEFINITION. The block's only flag-like state (10_state.md R32) and the guards of its operations, the "Enabled
when" of each rule (00_scope.md R10). -/

namespace Sys2Proof.Machine

/-- A codec state the spec calls valid: step index 0 to 88 (40_codec.md R90; the predictor's type says the
rest). -/
def codecValid (c : Codec) : Bool := StepIndex.legal c.stepIndex

/-- A transfer session is active: `NEGOTIATING`, `SENDING_CHUNK` or `AWAITING_ACK` (45_transfer.md R202, R210). -/
def xferActive (x : XferState) : Bool :=
  match x with
  | .idle => false
  | .negotiating => true
  | .sendingChunk => true
  | .awaitingAck => true
  | .complete => false
  | .abortedInsufficientSpace => false
  | .abortedNoReply => false
  | .abortedTimeout => false
  | .abortedCancelled => false

/-- The terminal states: `COMPLETE` and the four `ABORTED_*` (10_state.md R26). -/
def xferTerminal (x : XferState) : Bool :=
  match x with
  | .idle => false
  | .negotiating => false
  | .sendingChunk => false
  | .awaitingAck => false
  | .complete => true
  | .abortedInsufficientSpace => true
  | .abortedNoReply => true
  | .abortedTimeout => true
  | .abortedCancelled => true

/-- `PACE_GATE` (42_pacer.md R154). -/
def paceGate (s : State) : Bool :=
  decide (s.stx.mode = .live) || decide (s.pacer.targetTime ≤ s.now)

/-- The sample port is ready (43_transport.md R166, R168, R169). -/
def sampleReady (s : State) : Bool := decide (s.stx.state = .filling) && !s.stx.eof

/-- The guard of `FRAME_PUSH` (41_packetizer.md R133). -/
def framePushEnabled (s : State) : Bool := decide (s.pkt.pos < s.stx.cfg.frameSamples)

/-- The guard of `FRAME_PAD` (41_packetizer.md R135). -/
def framePadEnabled (s : State) : Bool :=
  decide (0 < s.pkt.pos) && decide (s.pkt.pos < s.stx.cfg.frameSamples)

/-- The guard of `FRAME_CLOSE` (41_packetizer.md R136). -/
def frameCloseEnabled (s : State) : Bool := decide (s.pkt.pos = s.stx.cfg.frameSamples)

/-- The guard of `ENC_FRAME`: an empty frame and 1 to `FRAME_SAMPLES` samples (41_packetizer.md R138). -/
def encFrameEnabled (xs : List Sample) (s : State) : Bool :=
  decide (s.pkt.pos = 0) && !xs.isEmpty && decide (xs.length ≤ s.stx.cfg.frameSamples)

/-- The guard of `SEND_FRAME` (43_transport.md R171). -/
def sendFrameEnabled (s : State) : Bool := decide (s.stx.state = .ready) && paceGate s

/-- The guard of `LOOP_RESTART` (43_transport.md R170). -/
def loopRestartEnabled (s : State) : Bool := decide (s.stx.state = .loopWait) && paceGate s

/-- The guard of `CAP_DECIDE` (44_capacity.md R188). -/
def capDecideEnabled (s : State) : Bool :=
  decide (s.xfer.state = .negotiating) && s.lsn.capReply.isSome

/-- The guard of `CAP_TIMEOUT` (44_capacity.md R189). -/
def capTimeoutEnabled (s : State) : Bool :=
  decide (s.xfer.state = .negotiating) && s.lsn.capReply.isNone && decide (s.xfer.deadline ≤ s.now)

/-- The guard of `XFER_SEND_CHUNK` (45_transfer.md R205). -/
def sendChunkEnabled (s : State) : Bool := decide (s.xfer.state = .sendingChunk)

/-- The guard of `XFER_ACK_MATCH` (45_transfer.md R207): the cell holds exactly the awaited index. -/
def ackMatchEnabled (s : State) : Bool :=
  decide (s.xfer.state = .awaitingAck) && decide (s.lsn.lastAck = some s.xfer.idx)

/-- The guard of `XFER_ACK_TIMEOUT` (45_transfer.md R208). -/
def ackTimeoutEnabled (s : State) : Bool :=
  decide (s.xfer.state = .awaitingAck) && decide (s.xfer.deadline ≤ s.now)
    && decide (s.lsn.lastAck ≠ some s.xfer.idx)

end Sys2Proof.Machine
end

