-- ==== Sys2Proof/Machine/Ops.lean ====
section
/-! DEFINITION. The named operations over memory and registers that the meanings share: byte memory, emission,
taking an event, the codec on the two codec states, the payload buffer, framing, pacing and the endings of a
session. -/

namespace Sys2Proof.Machine

/-! ### Memory -/

/-- The byte at an address (20_memory.md R43, R44). -/
def Mem.read : Mem → Nat → Byte
  | [], _ => Mem.unlisted
  | (a, b) :: rest, x => if x = a then b else Mem.read rest x

/-- A byte put at the front of a memory, unless an unlisted address reads so. -/
def Mem.consByte (a : Nat) (v : Byte) (m : Mem) : Mem :=
  if v = Mem.unlisted then m else (a, v) :: m

/-- A byte written at an address, in canonical form. -/
def Mem.write : Mem → Nat → Byte → Mem
  | [], x, v => Mem.consByte x v []
  | (a, b) :: rest, x, v =>
    if x < a then Mem.consByte x v ((a, b) :: rest)
    else if x = a then Mem.consByte x v rest
    else (a, b) :: Mem.write rest x v

/-- The `n` bytes from an address on, in ascending order: `FileRead(addr, n)` (R44). -/
def Mem.readBytes (m : Mem) (addr n : Nat) : List Byte :=
  (List.range n).map (fun k => Mem.read m (addr + k))

/-- Bytes written from an address on. -/
def Mem.writeBytes (m : Mem) (addr : Nat) : List Byte → Mem
  | [] => m
  | b :: rest => Mem.writeBytes (Mem.write m addr b) (addr + 1) rest

/-- The file buffer loaded by the host, from outside the block (R44, 70_reset_and_hazards.md R270): no step does
this. -/
def State.loadFile (s : State) (bytes : List Byte) : State :=
  s.withFile (Mem.writeBytes [] 0 bytes)

/-! ### Outputs and events -/

/-- `emit PORT(args)`: one output transaction (00_scope.md R9). -/
def emit (o : Output) (s : State) : State := s.withOutputs (o :: s.outputs)

/-- The code of an event (60_exceptions.md R231). -/
def eventCode : Event → BitVec 4
  | .txSendFail => 1
  | .captureOverrun => 2
  | .capNoReply => 3
  | .capInsufficient => 4
  | .ackTimeout => 5
  | .malformedReply => 6
  | .cancelled => 7
  | .decReject => 8

/-- The counter of a non-fatal event goes up by one (10_state.md R23, R231). -/
def countEvent (e : Event) (s : State) : State :=
  match e with
  | .txSendFail => s.withStx { s.stx with txFailCount := s.stx.txFailCount + 1 }
  | .captureOverrun => s.withStx { s.stx with overrunCount := s.stx.overrunCount + 1 }
  | .capNoReply => s
  | .capInsufficient => s
  | .ackTimeout => s
  | .malformedReply => s.withLsn { s.lsn with malformedCount := s.lsn.malformedCount + 1 }
  | .cancelled => s
  | .decReject => s.withDecRejects (s.decRejects + 1)

/-- A streaming session ends by cancellation: the partly filled frame and the waiting packet are discarded
(43_transport.md R174). -/
def endStream (s : State) : State :=
  (s.withPkt { s.pkt with out := none, pos := 0, payload := [] }).withStx
    { s.stx with eof := false, state := .idle }

/-- The transfer session's state register written. -/
def setXferState (x : XferState) (s : State) : State := s.withXfer { s.xfer with state := x }

/-- The session an event is fatal to ends in the state R231 names; an event that meets no such session
changes none (log 17). -/
def endSession (e : Event) (info : SizeWord) (s : State) : State :=
  match e with
  | .txSendFail => s
  | .captureOverrun => s
  | .capNoReply =>
    if s.xfer.state = .negotiating then setXferState .abortedNoReply s else s
  | .capInsufficient =>
    if s.xfer.state = .negotiating then setXferState .abortedInsufficientSpace s else s
  | .ackTimeout =>
    if s.xfer.state = .awaitingAck then setXferState .abortedTimeout s else s
  | .malformedReply => s
  | .cancelled =>
    if info = 0 then (if s.stx.state = .idle then s else endStream s)
    else if info = 1 then (if xferActive s.xfer.state then setXferState .abortedCancelled s else s)
    else s
  | .decReject => s

/-- Taking an event, the block's only exception mechanism (60_exceptions.md R230, R231, R244): its counter, the
state its session ends in, and the report on the `EVENT` port. It transfers control nowhere and saves
nothing. -/
def takeEvent (e : Event) (info : SizeWord) (s : State) : State :=
  emit (.event (eventCode e) info) (endSession e info (countEvent e s))

/-! ### The codec -/

/-- `ENC_LOAD` (40_codec.md R112). -/
def encLoad (p : Sample) (i : StepIndex) (s : State) : State :=
  s.withEnc { predictor := p, stepIndex := i }

/-- `DEC_LOAD` (40_codec.md R113). -/
def decLoad (p : Sample) (i : StepIndex) (s : State) : State :=
  s.withDec { predictor := p, stepIndex := i }

/-- A codec state after one code (R93). -/
def codecAfter (k : Codec) (c : Code) : Codec :=
  let r := recon k.predictor k.stepIndex c
  { predictor := r.predictor, stepIndex := r.stepIndex }

/-- The code the encoder gives a sample in a codec state (R94). -/
def codecCode (k : Codec) (x : Sample) : Code := quantise k.predictor (romStep k.stepIndex) x

/-- The effect of `ENC_SAMPLE(x)` on the state (R94). -/
def encSample (x : Sample) (s : State) : State := s.withEnc (codecAfter s.enc (codecCode s.enc x))

/-- The effect of `DEC_SAMPLE(c)` on the state (R95); the sample it returns is the new predictor. -/
def decSample (c : Code) (s : State) : State := s.withDec (codecAfter s.dec c)

/-- The codec states after each of a sequence of codes, in order. -/
def codecStates (k : Codec) : List Code → List Codec
  | [] => []
  | c :: cs => codecAfter k c :: codecStates (codecAfter k c) cs

/-- The codec state after a sequence of codes. -/
def codecRun (k : Codec) : List Code → Codec
  | [] => k
  | c :: cs => codecRun (codecAfter k c) cs

/-- `DEC_SAMPLE` of each code in order (30_encoding.md R82): the samples are the successive predictors. -/
def decodedSamples (k : Codec) (cs : List Code) : List Sample :=
  (codecStates k cs).map Codec.predictor

/-! ### The packetizer -/

/-- `PayloadWrite(k, c)` (20_memory.md R43). -/
def payloadWrite (k : Nat) (c : Code) (s : State) : State :=
  s.withPkt { s.pkt with
    payload := Mem.write s.pkt.payload (k >>> 1) (putNibble k c (Mem.read s.pkt.payload (k >>> 1))) }

/-- The snapshot, taken when and only when the frame is empty (41_packetizer.md R132). -/
def snapshot (s : State) : State :=
  if s.pkt.pos = 0 then
    s.withPkt { s.pkt with hdrPredictor := s.enc.predictor, hdrStepIndex := s.enc.stepIndex }
  else s

/-- The effect of `FRAME_PUSH(x)` (41_packetizer.md R133). -/
def framePush (x : Sample) (s : State) : State :=
  let s1 := snapshot s
  let c := codecCode s1.enc x
  let s2 := payloadWrite s1.pkt.pos c (encSample x s1)
  s2.withPkt { s2.pkt with pos := s2.pkt.pos + 1 }

/-- `FRAME_PUSH` of each sample in order. -/
def framePushAll : List Sample → State → State
  | [], s => s
  | x :: xs, s => framePushAll xs (framePush x s)

/-- The effect of `FRAME_PAD`: zero samples, encoded like any other, until the frame is full
(41_packetizer.md R135). -/
def framePad (s : State) : State :=
  framePushAll (List.replicate (s.stx.cfg.frameSamples - s.pkt.pos) 0) s

/-- The packet of the open frame (41_packetizer.md R136, 30_encoding.md R63). -/
def framePacket (s : State) : List Byte :=
  headerBytes s.pkt.seq s.pkt.hdrPredictor s.pkt.hdrStepIndex
    ++ Mem.readBytes s.pkt.payload 0 (paylen s.stx.cfg.frameSamples)

/-- The effect of `FRAME_CLOSE` (41_packetizer.md R136). -/
def frameClose (s : State) : State :=
  s.withPkt { s.pkt with
    out := some (framePacket s), seq := s.pkt.seq + 1, pos := 0, payload := [] }

/-- The effect of `ENC_FRAME(xs)` (41_packetizer.md R138). -/
def encFrame (xs : List Sample) (s : State) : State :=
  let s1 := framePushAll xs s
  frameClose (if xs.length < s1.stx.cfg.frameSamples then framePad s1 else s1)

/-- `PKT_DECODE(b)` for frames of `n` samples (41_packetizer.md R140): a datagram of the wrong length or with a
step index above 88 is rejected; any other is decoded from the state its header carries. -/
def decodeDatagram (n : Nat) (b : List Byte) (s : State) : State :=
  if b.length ≠ 7 + paylen n ∨ 88 < (packetStepIndex b).toNat then
    takeEvent .decReject (BitVec.ofNat 32 b.length) s
  else
    let k : Codec := { predictor := packetPredictor b, stepIndex := packetStepIndex b }
    let cs := packetCodes b n
    emit (.pcmOut (packetSeq b) (decodedSamples k cs)) (s.withDec (codecRun k cs))

/-- `PKT_DECODE` with the frame length of the configuration registers (41_packetizer.md R140). -/
def receiveDatagram (b : List Byte) (s : State) : Answer :=
  match s.cfg.sampleRate, s.cfg.frameMs with
  | some rate, some ms =>
    if frameSamplesOf rate ms = 0 then .refused .frameLengthZero
    else .next (decodeDatagram (frameSamplesOf rate ms) b s)
  | _, _ => .refused .decodeConfigUnwritten

/-! ### The sample source -/

/-- A sample taken from the source: in file mode it is recorded in the first pass and must be the next recorded one
in a later pass; none when it is another (70_reset_and_hazards.md R268, 93_implementation_defined.md U19). DESIGN CHOICE,
safe (log 35): a `PCM_OVERRUN` (43_transport.md R173) does not change the record, so a pass that lost other samples than
the first is no replay of it. -/
def takeSample (mode : Mode) (x : Sample) (p : Playback) : Option Playback :=
  match mode, p.replay with
  | .live, _ => some p
  | .file, none => some { p with pass := p.pass ++ [x] }
  | .file, some [] => none
  | .file, some (y :: ys) => if x = y then some { p with replay := some ys } else none

/-- The source may end its pass: in file mode a later pass ends after all the samples of the first (R268, U19). -/
def passMayEnd (mode : Mode) (p : Playback) : Bool :=
  match mode, p.replay with
  | .live, _ => true
  | .file, none => true
  | .file, some ys => ys.isEmpty

/-- After `PCM_REWIND` a file-mode source is to supply the first pass again (43_transport.md R166, R268). -/
def rewound (mode : Mode) (p : Playback) : Playback :=
  match mode with
  | .live => p
  | .file => { p with replay := some p.pass }

/-! ### The pacer -/

/-- `PACE_ANCHOR` (42_pacer.md R151). -/
def paceAnchor (s : State) : State :=
  s.withPacer { startTime := s.now, framesSent := 0, targetTime := s.now }

/-- The target time `PACE_MARK` computes: that of the count including the frame just sent (42_pacer.md R152, R153). -/
def markTarget (s : State) : Nat :=
  paceTarget Config.tickHz s.pacer.startTime (s.pacer.framesSent + 1)
    s.stx.cfg.frameMs s.stx.cfg.paceNum s.stx.cfg.paceDen

/-- The effect of `PACE_MARK` (42_pacer.md R153). -/
def paceMark (s : State) : State :=
  s.withPacer { s.pacer with framesSent := s.pacer.framesSent + 1, targetTime := markTarget s }

/-- A time that fits the time base (70_reset_and_hazards.md R274). -/
def fitsTime (t : Nat) : Bool := decide (t < 2 ^ Config.wTime)

/-! ### The listener -/

/-- The effect of `MSG_IN_FREE(body)` (44_capacity.md R187). -/
def listenFree (body : List Byte) (s : State) : State :=
  match parseFree body with
  | some reply => s.withLsn { s.lsn with capReply := some reply }
  | none => takeEvent .malformedReply 0 s

/-- The effect of `MSG_IN_ACK(body)` (45_transfer.md R206). -/
def listenAck (body : List Byte) (s : State) : State :=
  match parseAck body with
  | some index => s.withLsn { s.lsn with lastAck := some index }
  | none => takeEvent .malformedReply 1 s

end Sys2Proof.Machine
end

