-- ==== Sys2Proof/Machine/Capacity.lean ====
section
/-! DEFINITION. The operations of CAP and the listener's capacity step (44_capacity.md R187, R188, R189). -/

namespace Sys2Proof.Machine

/-- `MSG_IN_FREE(body)` (R187). -/
def execMsgInFree (body : List Byte) (s : State) : Answer := .next (listenFree body s)

/-- The reply cell cleared (R188, R189). -/
def clearReply (s : State) : State := s.withLsn { s.lsn with capReply := none }

/-- `CAP_DECIDE` (R188): the sum does not wrap (R190) and equality proceeds. -/
def execCapDecide (s : State) : Answer :=
  if !capDecideEnabled s then .fault (.notEnabled "CAP_DECIDE")
  else match s.lsn.capReply with
    | none => .fault (.notEnabled "CAP_DECIDE")
    | some (freeBytes, resident) =>
      let s1 := clearReply s
      if s.xfer.fileSize ≤ freeBytes + resident then
        let s2 := emit (.msg .data (startBody s.xfer.fileSize)) s1
        if s.xfer.total = 0 then
          .next (setXferState .complete (emit (.msg .data litEnd) s2))
        else .next (setXferState .sendingChunk s2)
      else .next (takeEvent .capInsufficient 0 s1)

/-- `CAP_TIMEOUT` (R189). -/
def execCapTimeout (s : State) : Answer :=
  if capTimeoutEnabled s then .next (takeEvent .capNoReply 0 (clearReply s))
  else .fault (.notEnabled "CAP_TIMEOUT")

end Sys2Proof.Machine
end

