-- ==== Sys2Proof/Machine/Codec.lean ====
section
/-! DEFINITION. The functions of CODEC invoked directly (40_codec.md R93, R94, R95, R112, R113). What a function
returns stands in `ret` (log 3). -/

namespace Sys2Proof.Machine

/-- `RECON(p, i, c)`: reads no state and writes none (R93). -/
def execRecon (p : Sample) (i : StepIndex) (c : Code) (s : State) : Answer :=
  if StepIndex.legal i then
    .next (s.withRet (.recon (recon p i c).predictor (recon p i c).stepIndex (recon p i c).delta))
  else .refused .invalidCodecState

/-- `ENC_SAMPLE(x)` (R94). -/
def execEncSample (x : Sample) (s : State) : Answer :=
  if codecValid s.enc then .next ((encSample x s).withRet (.code (codecCode s.enc x)))
  else .refused .invalidCodecState

/-- `DEC_SAMPLE(c)` (R95). -/
def execDecSample (c : Code) (s : State) : Answer :=
  if codecValid s.dec then
    .next ((decSample c s).withRet (.sample (decSample c s).dec.predictor))
  else .refused .invalidCodecState

/-- `ENC_LOAD(p, i)`, `i` in 0 to 88 (R112). -/
def execEncLoad (p : Sample) (i : StepIndex) (s : State) : Answer :=
  if StepIndex.legal i then .next (encLoad p i s) else .refused .invalidCodecState

/-- `DEC_LOAD(p, i)`, `i` in 0 to 88 (R113). -/
def execDecLoad (p : Sample) (i : StepIndex) (s : State) : Answer :=
  if StepIndex.legal i then .next (decLoad p i s) else .refused .invalidCodecState

end Sys2Proof.Machine
end

