-- ==== Sys2Proof/Machine/Control.lean ====
section
/-! DEFINITION. Host commands that belong to no one unit, and reset (30_encoding.md R72, 43_transport.md R174, R178,
45_transfer.md R210, 70_reset_and_hazards.md R260). -/

namespace Sys2Proof.Machine

/-- Command code `00`: reserved, ignored (30_encoding.md R72, R79). -/
def execCmdReserved (s : State) : Answer := .next s

/-- The streaming half of `CANCEL` (43_transport.md R174). -/
def cancelStream (s : State) : State :=
  if s.stx.state = .idle then s else takeEvent .cancelled 0 s

/-- The transfer half of `CANCEL` (45_transfer.md R210). -/
def cancelTransfer (s : State) : State :=
  if xferActive s.xfer.state then takeEvent .cancelled 1 s else s

/-- `CANCEL`: one command ends both protocols, the stream first (60_exceptions.md R238). -/
def execCancel (s : State) : Answer := .next (cancelTransfer (cancelStream s))

/-- A configuration register written; it counts as written from now on (43_transport.md R178). -/
def writeCfg (name : CfgName) (v : Nat) (c : CfgRegs) : CfgRegs :=
  match name with
  | .destAddr => { c with destAddr := some v }
  | .destPort => { c with destPort := some v }
  | .sampleRate => { c with sampleRate := some v }
  | .channels => { c with channels := some v }
  | .frameMs => { c with frameMs := some v }
  | .chunkSize => { c with chunkSize := some v }
  | .ackTimeout => { c with ackTimeout := some v }
  | .capTimeout => { c with capTimeout := some v }
  | .paceNum => { c with paceNum := some v }
  | .paceDen => { c with paceDen := some v }
  | .idx0 => { c with idx0 := some v }

/-- A configuration register read. -/
def readCfg (name : CfgName) (c : CfgRegs) : Option Nat :=
  match name with
  | .destAddr => c.destAddr
  | .destPort => c.destPort
  | .sampleRate => c.sampleRate
  | .channels => c.channels
  | .frameMs => c.frameMs
  | .chunkSize => c.chunkSize
  | .ackTimeout => c.ackTimeout
  | .capTimeout => c.capTimeout
  | .paceNum => c.paceNum
  | .paceDen => c.paceDen
  | .idx0 => c.idx0

/-- `CFG_WRITE(name, value)`: no check is made at write time (43_transport.md R178). -/
def execCfgWrite (name : CfgName) (v : Nat) (s : State) : Answer :=
  .next (s.withCfg (writeCfg name v s.cfg))

/-- The block's registers at their reset values, and no sample remembered of an earlier session; `now`, `FILE`, what
was emitted and the model's other fields stay
(70_reset_and_hazards.md R260, log 29). -/
def resetBlock (s : State) : State :=
  { State.reset with
    now := s.now, file := s.file, outputs := s.outputs, ret := s.ret, sends := s.sends
    script := s.script, inbox := s.inbox }

/-- `RESET` (70_reset_and_hazards.md R260). -/
def execReset (s : State) : Answer := .next (resetBlock s)

end Sys2Proof.Machine
end

