-- ==== Sys2Proof/Machine/Pacing.lean ====
section
/-! DEFINITION. The operations of PACER and the time base (42_pacer.md R151, R153, R154, R160). -/

namespace Sys2Proof.Machine

/-- `PACE_ANCHOR` (R151). -/
def execPaceAnchor (s : State) : Answer := .next (paceAnchor s)

/-- `PACE_MARK` (R153); a target time at or above `2^W_TIME` is refused (70_reset_and_hazards.md R274). -/
def execPaceMark (s : State) : Answer :=
  if fitsTime (markTarget s) then .next (paceMark s) else .refused .timeOverflow

/-- `PACE_GATE`, a predicate (R154). -/
def execPaceGate (s : State) : Answer := .next (s.withRet (.gate (paceGate s)))

/-- `TICK(t)`: time moves forward, by any amount; a backward step is refused (R160). -/
def execTick (t : TimeWord) (s : State) : Answer :=
  if s.now ≤ t.toNat then .next (s.withNow t.toNat) else .refused .backwardTime

end Sys2Proof.Machine
end

