-- ==== Sys2Proof/Machine/Packetizer.lean ====
section
/-! DEFINITION. The operations of PKT (41_packetizer.md R133, R135, R136, R138, R140). -/

namespace Sys2Proof.Machine

/-- `FRAME_PUSH(x)` (R133). -/
def execFramePush (x : Sample) (s : State) : Answer :=
  if !framePushEnabled s then .fault (.notEnabled "FRAME_PUSH")
  else if codecValid s.enc then .next (framePush x s)
  else .refused .invalidCodecState

/-- `FRAME_PAD` (R135). -/
def execFramePad (s : State) : Answer :=
  if !framePadEnabled s then .fault (.notEnabled "FRAME_PAD")
  else if codecValid s.enc then .next (framePad s)
  else .refused .invalidCodecState

/-- `FRAME_CLOSE` (R136). -/
def execFrameClose (s : State) : Answer :=
  if frameCloseEnabled s then .next (frameClose s) else .fault (.notEnabled "FRAME_CLOSE")

/-- `ENC_FRAME(xs)` (R138). -/
def execEncFrame (xs : List Sample) (s : State) : Answer :=
  if !encFrameEnabled xs s then .fault (.notEnabled "ENC_FRAME")
  else if codecValid s.enc then .next (encFrame xs s)
  else .refused .invalidCodecState

/-- `PKT_DECODE(b)` (R140). -/
def execPktDecode (b : List Byte) (s : State) : Answer := receiveDatagram b s

end Sys2Proof.Machine
end

