-- ==== Sys2Proof/Machine/Transfer.lean ====
section
/-! DEFINITION. The operations of XFER and the listener's acknowledgment step (45_transfer.md R202, R205 to R208). -/

namespace Sys2Proof.Machine

/-- The record `XFER_START` latches for a file of `size` bytes, or why the command is refused (R202, R203). -/
def latchXfer (now size : Nat) (c : CfgRegs) : Except Refusal XferCfg :=
  match c.chunkSize, c.ackTimeout, c.capTimeout, c.idx0 with
  | some chunkSize, some ackTimeout, some capTimeout, some idx0 =>
    if chunkSize = 0 ∨ 1 < idx0 then .error .xferConfigIllegal
    else if !fitsTime (now + capTimeout) then .error .timeOverflow
    else if chunkCount size chunkSize = 2 ^ Config.wSize - 1 ∧ idx0 = 1 then .error .chunkIndexOverflow
    else
      .ok { chunkSize := chunkSize, ackTimeout := ackTimeout, capTimeout := capTimeout, idx0 := idx0 }
  | _, _, _, _ => .error .xferConfigUnwritten

/-- The effect of `XFER_START(S)` with a legal configuration (R202, 44_capacity.md R186). -/
def startXfer (size : Nat) (cfg : XferCfg) (s : State) : State :=
  let s1 := s.withLsn { s.lsn with capReply := none, lastAck := none }
  let s2 := emit (.msg .req Config.reqToken) s1
  s2.withXfer
    { state := .negotiating
      idx := cfg.idx0
      total := chunkCount size cfg.chunkSize
      fileSize := size
      deadline := s.now + cfg.capTimeout
      lastAcked := none
      cfg := cfg }

/-- `XFER_START(S)` (R202): ignored while a session is active. -/
def execXferStart (size : SizeWord) (s : State) : Answer :=
  if xferActive s.xfer.state then .next s
  else match latchXfer s.now size.toNat s.cfg with
    | .ok cfg => .next (startXfer size.toNat cfg s)
    | .error r => .refused r

/-- The byte address of the awaited chunk (R203). -/
def currentOffset (s : State) : Nat := chunkOffset s.xfer.idx s.xfer.cfg.idx0 s.xfer.cfg.chunkSize

/-- The data of the awaited chunk: `FileRead(off, n)` (R205). -/
def currentData (s : State) : List Byte :=
  Mem.readBytes s.file (currentOffset s)
    (chunkLength s.xfer.cfg.chunkSize s.xfer.fileSize (currentOffset s))

/-- The awaited chunk lies in the file, where `FileRead` is defined (20_memory.md R44). -/
def chunkInFile (s : State) : Bool :=
  decide (s.xfer.cfg.idx0 ≤ s.xfer.idx) && decide (currentOffset s ≤ s.xfer.fileSize)

/-- `XFER_SEND_CHUNK` (R205). -/
def execXferSendChunk (s : State) : Answer :=
  if !sendChunkEnabled s then .fault (.notEnabled "XFER_SEND_CHUNK")
  else if !fitsTime (s.now + s.xfer.cfg.ackTimeout) then .refused .timeOverflow
  else if !chunkInFile s then .refused .invalidSessionState
  else
    let s1 := emit (.msg .data (chunkBody s.xfer.idx s.xfer.total (currentData s))) s
    .next (s1.withXfer
      { s1.xfer with deadline := s.now + s.xfer.cfg.ackTimeout, state := .awaitingAck })

/-- `MSG_IN_ACK(body)` (R206). -/
def execMsgInAck (body : List Byte) (s : State) : Answer := .next (listenAck body s)

/-- The awaited chunk is the last one: `idx = IDX0 + total - 1` (R207). -/
def isLastChunk (s : State) : Bool := decide (s.xfer.idx + 1 = s.xfer.cfg.idx0 + s.xfer.total)

/-- `XFER_ACK_MATCH` (R207): advance by exactly one, or finish with `END`. -/
def execXferAckMatch (s : State) : Answer :=
  if !ackMatchEnabled s then .fault (.notEnabled "XFER_ACK_MATCH")
  else
    let s1 := s.withXfer { s.xfer with lastAcked := some s.xfer.idx }
    if isLastChunk s then .next (setXferState .complete (emit (.msg .data litEnd) s1))
    else if 2 ^ Config.wSize ≤ s.xfer.idx + 1 then .refused .chunkIndexOverflow
    else .next (s1.withXfer { s1.xfer with idx := s.xfer.idx + 1, state := .sendingChunk })

/-- `XFER_ACK_TIMEOUT` (R208). -/
def execXferAckTimeout (s : State) : Answer :=
  if ackTimeoutEnabled s then .next (takeEvent .ackTimeout (BitVec.ofNat 32 s.xfer.idx) s)
  else .fault (.notEnabled "XFER_ACK_TIMEOUT")

end Sys2Proof.Machine
end

