-- ==== Sys2Proof/Machine/Transport.lean ====
section
/-! DEFINITION. The operations of STX (43_transport.md R167 to R173). -/

namespace Sys2Proof.Machine

/-- The record `STREAM_START` latches from the configuration registers, or why the command is refused
(R167, 41_packetizer.md R131). -/
def latchStream (c : CfgRegs) : Except Refusal StxCfg :=
  match c.destAddr, c.destPort, c.sampleRate, c.channels, c.frameMs, c.paceNum, c.paceDen with
  | some addr, some port, some rate, some channels, some ms, some num, some den =>
    if channels ≠ 1 ∨ rate = 0 ∨ ms = 0 ∨ den = 0 ∨ frameSamplesOf rate ms = 0 then
      .error .streamConfigIllegal
    else
      .ok { frameSamples := frameSamplesOf rate ms, frameMs := ms, paceNum := num, paceDen := den
            destAddr := addr, destPort := port }
  | _, _, _, _, _, _, _ => .error .streamConfigUnwritten

/-- The effect of `STREAM_START` with a legal configuration (R167). -/
def startStream (mode : Mode) (loop : Bool) (cfg : StxCfg) (s : State) : State :=
  let s1 := s.withStx { s.stx with cfg := cfg, mode := mode, loop := loop, eof := false }
  let s2 := encLoad Config.encInitPredictor Config.encInitStepIndex s1
  let s3 := s2.withPkt { s2.pkt with seq := Config.seqInit, pos := 0, payload := [], out := none }
  let s4 := (paceAnchor s3).withPlayback { pass := [], replay := none }
  s4.withStx { s4.stx with state := .filling }

/-- `STREAM_START(mode, loop)` (R167): ignored while a session runs. -/
def execStreamStart (mode : Mode) (loop : Bool) (s : State) : Answer :=
  if s.stx.state ≠ .idle then .next s
  else match latchStream s.cfg with
    | .ok cfg => .next (startStream mode loop cfg s)
    | .error r => .refused r

/-- The state of `STX` after a packet is closed. -/
def toReady (s : State) : State := s.withStx { s.stx with state := .ready }

/-- `PCM_IN(x)` (R168). A file source that replays another sample than in its first pass is refused
(93_implementation_defined.md U19). -/
def execPcmIn (x : Sample) (s : State) : Answer :=
  if !sampleReady s then .fault .portNotReady
  else if !framePushEnabled s then .refused .invalidSessionState
  else if !codecValid s.enc then .refused .invalidCodecState
  else match takeSample s.stx.mode x s.playback with
    | none => .refused .sourceNotReplayed
    | some p =>
      let s1 := (framePush x s).withPlayback p
      .next (if s1.pkt.pos = s1.stx.cfg.frameSamples then toReady (frameClose s1) else s1)

/-- `PCM_EOF` (R169). A file source that ends a later pass before its last sample is refused
(93_implementation_defined.md U19). -/
def execPcmEof (s : State) : Answer :=
  if !sampleReady s then .fault .portNotReady
  else if !passMayEnd s.stx.mode s.playback then .refused .sourceNotReplayed
  else if 0 < s.pkt.pos then
    if !framePadEnabled s then .refused .invalidSessionState
    else if !codecValid s.enc then .refused .invalidCodecState
    else
      let s1 := frameClose (framePad s)
      .next (toReady (s1.withStx { s1.stx with eof := true }))
  else .next (s.withStx { s.stx with state := if s.stx.loop then .loopWait else .idle })

/-- `LOOP_RESTART` (R170). -/
def execLoopRestart (s : State) : Answer :=
  if !loopRestartEnabled s then .fault (.notEnabled "LOOP_RESTART")
  else
    let s1 := paceAnchor (encLoad Config.encInitPredictor Config.encInitStepIndex s)
    let s2 := (emit .pcmRewind s1).withPlayback (rewound s1.stx.mode s1.playback)
    .next (s2.withStx { s2.stx with state := .filling })

/-- The streaming state after a send: the pass ends when `STX.eof` is set (R171). -/
def afterSend (s : State) : State :=
  if s.stx.eof then
    s.withStx { s.stx with eof := false, state := if s.stx.loop then .loopWait else .idle }
  else s.withStx { s.stx with state := .filling }

/-- `SEND_FRAME(r)` (R171): the packet is offered to the port once, whatever the result. A failed send reports
the packet's sequence number (60_exceptions.md R232). -/
def execSendFrame (r : SendResult) (s : State) : Answer :=
  if !sendFrameEnabled s then .fault (.notEnabled "SEND_FRAME")
  else match s.pkt.out with
    | none => .refused .invalidSessionState
    | some bytes =>
      if !fitsTime (markTarget s) then .refused .timeOverflow
      else
        let s1 := emit (.dgram s.stx.cfg.destAddr s.stx.cfg.destPort bytes) s
        let s2 := if r = .fail then takeEvent .txSendFail (s.pkt.seq - 1) s1 else s1
        let s3 := s2.withPkt { s2.pkt with out := none }
        .next (afterSend (paceMark s3))

/-- `PCM_OVERRUN` (R173): ignored in `IDLE`. -/
def execPcmOverrun (s : State) : Answer :=
  if s.stx.state = .idle then .next s else .next (takeEvent .captureOverrun 0 s)

end Sys2Proof.Machine
end

