-- ==== Sys2Proof/Machine/Wire.lean ====
section
/-! DEFINITION. The rows of the opcode table that are encodings: the sixteen codes, the payload byte, the packet,
the six messages and the eight events (30_encoding.md R61 to R71, 40_codec.md R96 to R111, 60_exceptions.md R231). A code, a
payload byte and a packet act on the decoder that reads them (log 14); an inbound message is heard by the
listener, an outbound one is emitted (log 16); an event is taken (log 17). -/

namespace Sys2Proof.Machine

/-- One code applied by the decoder: `DEC_SAMPLE` (40_codec.md R95), refused on an invalid codec state (U14). -/
def decodeCode (c : Code) (s : State) : Answer :=
  if codecValid s.dec then
    .next ((decSample c s).withRet (.sample (decSample c s).dec.predictor))
  else .refused .invalidCodecState

/-- Code `0x0` (40_codec.md R96). -/
def execCode0x0 (s : State) : Answer := decodeCode 0x0 s

/-- Code `0x1` (40_codec.md R97). -/
def execCode0x1 (s : State) : Answer := decodeCode 0x1 s

/-- Code `0x2` (40_codec.md R98). -/
def execCode0x2 (s : State) : Answer := decodeCode 0x2 s

/-- Code `0x3` (40_codec.md R99). -/
def execCode0x3 (s : State) : Answer := decodeCode 0x3 s

/-- Code `0x4` (40_codec.md R100). -/
def execCode0x4 (s : State) : Answer := decodeCode 0x4 s

/-- Code `0x5` (40_codec.md R101). -/
def execCode0x5 (s : State) : Answer := decodeCode 0x5 s

/-- Code `0x6` (40_codec.md R102). -/
def execCode0x6 (s : State) : Answer := decodeCode 0x6 s

/-- Code `0x7` (40_codec.md R103). -/
def execCode0x7 (s : State) : Answer := decodeCode 0x7 s

/-- Code `0x8` (40_codec.md R104). -/
def execCode0x8 (s : State) : Answer := decodeCode 0x8 s

/-- Code `0x9` (40_codec.md R105). -/
def execCode0x9 (s : State) : Answer := decodeCode 0x9 s

/-- Code `0xA` (40_codec.md R106). -/
def execCode0xA (s : State) : Answer := decodeCode 0xA s

/-- Code `0xB` (40_codec.md R107). -/
def execCode0xB (s : State) : Answer := decodeCode 0xB s

/-- Code `0xC` (40_codec.md R108). -/
def execCode0xC (s : State) : Answer := decodeCode 0xC s

/-- Code `0xD` (40_codec.md R109). -/
def execCode0xD (s : State) : Answer := decodeCode 0xD s

/-- Code `0xE` (40_codec.md R110). -/
def execCode0xE (s : State) : Answer := decodeCode 0xE s

/-- Code `0xF` (40_codec.md R111). -/
def execCode0xF (s : State) : Answer := decodeCode 0xF s

/-- A payload byte: the code in the high nibble is decoded first, the one in the low nibble second, against the
state the first left (30_encoding.md R62, 41_packetizer.md R142; log 15). -/
def execPayloadByte (h l : Code) (s : State) : Answer :=
  if codecValid s.dec then
    .next ((s.withDec (codecRun s.dec [h, l])).withRet (.samples (decodedSamples s.dec [h, l])))
  else .refused .invalidCodecState

/-- A packet, read as `PKT_DECODE` reads the datagram that carries it (30_encoding.md R63, R74, 41_packetizer.md R140). -/
def execPacket (seq : Seq) (p : Sample) (i : StepIndex) (payload : List Byte) (s : State) : Answer :=
  receiveDatagram (headerBytes seq p i ++ payload) s

/-- `REQ` on `T_REQ` (30_encoding.md R66). -/
def execReq (s : State) : Answer := .next (emit (.msg .req Config.reqToken) s)

/-- `FREE`, heard by the listener on `T_RESP` (30_encoding.md R67, 44_capacity.md R187). -/
def execFree (freeBytes residentBytes : Nat) (s : State) : Answer :=
  .next (listenFree (freeBody freeBytes residentBytes) s)

/-- `START` on `T_DATA` (30_encoding.md R68). -/
def execStart (fileSize : Nat) (s : State) : Answer :=
  .next (emit (.msg .data (startBody fileSize)) s)

/-- `CHUNK` on `T_DATA` (30_encoding.md R69). -/
def execChunk (index total : Nat) (data : List Byte) (s : State) : Answer :=
  .next (emit (.msg .data (chunkBody index total data)) s)

/-- `END` on `T_DATA` (30_encoding.md R70). -/
def execEndMsg (s : State) : Answer := .next (emit (.msg .data litEnd) s)

/-- `ACK`, heard by the listener on `T_ACK` (30_encoding.md R71, 45_transfer.md R206). -/
def execAck (index : Nat) (s : State) : Answer := .next (listenAck (ackBody index) s)

/-- Event `TX_SEND_FAIL` taken (60_exceptions.md R231, R232). -/
def execEventTxSendFail (info : SizeWord) (s : State) : Answer := .next (takeEvent .txSendFail info s)

/-- Event `CAPTURE_OVERRUN` taken (60_exceptions.md R231, R233). -/
def execEventCaptureOverrun (info : SizeWord) (s : State) : Answer := .next (takeEvent .captureOverrun info s)

/-- Event `CAP_NO_REPLY` taken (60_exceptions.md R231, R234). -/
def execEventCapNoReply (info : SizeWord) (s : State) : Answer := .next (takeEvent .capNoReply info s)

/-- Event `CAP_INSUFFICIENT` taken (60_exceptions.md R231, R235). -/
def execEventCapInsufficient (info : SizeWord) (s : State) : Answer := .next (takeEvent .capInsufficient info s)

/-- Event `ACK_TIMEOUT` taken (60_exceptions.md R231, R236). -/
def execEventAckTimeout (info : SizeWord) (s : State) : Answer := .next (takeEvent .ackTimeout info s)

/-- Event `MALFORMED_REPLY` taken (60_exceptions.md R231, R237). -/
def execEventMalformedReply (info : SizeWord) (s : State) : Answer := .next (takeEvent .malformedReply info s)

/-- Event `CANCELLED` taken (60_exceptions.md R231, R238). -/
def execEventCancelled (info : SizeWord) (s : State) : Answer := .next (takeEvent .cancelled info s)

/-- Event `DEC_REJECT` taken (60_exceptions.md R231, R239). -/
def execEventDecReject (info : SizeWord) (s : State) : Answer := .next (takeEvent .decReject info s)

end Sys2Proof.Machine
end

