-- ==== Sys2Proof/Machine/Dispatch.lean ====
section
/-! DEFINITION. The meaning of every operation: one arm per constructor of `Instr`, each one direct call. -/

namespace Sys2Proof.Machine

def exec (i : Instr) (s : State) : Host.Outcome State Fault Refusal :=
  match i with
  | .code0x0 => Sys2Proof.Machine.execCode0x0 s
  | .code0x1 => Sys2Proof.Machine.execCode0x1 s
  | .code0x2 => Sys2Proof.Machine.execCode0x2 s
  | .code0x3 => Sys2Proof.Machine.execCode0x3 s
  | .code0x4 => Sys2Proof.Machine.execCode0x4 s
  | .code0x5 => Sys2Proof.Machine.execCode0x5 s
  | .code0x6 => Sys2Proof.Machine.execCode0x6 s
  | .code0x7 => Sys2Proof.Machine.execCode0x7 s
  | .code0x8 => Sys2Proof.Machine.execCode0x8 s
  | .code0x9 => Sys2Proof.Machine.execCode0x9 s
  | .code0xA => Sys2Proof.Machine.execCode0xA s
  | .code0xB => Sys2Proof.Machine.execCode0xB s
  | .code0xC => Sys2Proof.Machine.execCode0xC s
  | .code0xD => Sys2Proof.Machine.execCode0xD s
  | .code0xE => Sys2Proof.Machine.execCode0xE s
  | .code0xF => Sys2Proof.Machine.execCode0xF s
  | .payloadByte h l => Sys2Proof.Machine.execPayloadByte h l s
  | .packet seq predictor stepIndex payload => Sys2Proof.Machine.execPacket seq predictor stepIndex payload s
  | .req => Sys2Proof.Machine.execReq s
  | .free freeBytes residentBytes => Sys2Proof.Machine.execFree freeBytes residentBytes s
  | .start fileSize => Sys2Proof.Machine.execStart fileSize s
  | .chunk index total data => Sys2Proof.Machine.execChunk index total data s
  | .endMsg => Sys2Proof.Machine.execEndMsg s
  | .ack index => Sys2Proof.Machine.execAck index s
  | .cmdReserved => Sys2Proof.Machine.execCmdReserved s
  | .streamStart mode loop => Sys2Proof.Machine.execStreamStart mode loop s
  | .xferStart size => Sys2Proof.Machine.execXferStart size s
  | .cancel => Sys2Proof.Machine.execCancel s
  | .eventTxSendFail info => Sys2Proof.Machine.execEventTxSendFail info s
  | .eventCaptureOverrun info => Sys2Proof.Machine.execEventCaptureOverrun info s
  | .eventCapNoReply info => Sys2Proof.Machine.execEventCapNoReply info s
  | .eventCapInsufficient info => Sys2Proof.Machine.execEventCapInsufficient info s
  | .eventAckTimeout info => Sys2Proof.Machine.execEventAckTimeout info s
  | .eventMalformedReply info => Sys2Proof.Machine.execEventMalformedReply info s
  | .eventCancelled info => Sys2Proof.Machine.execEventCancelled info s
  | .eventDecReject info => Sys2Proof.Machine.execEventDecReject info s
  | .recon predictor stepIndex code => Sys2Proof.Machine.execRecon predictor stepIndex code s
  | .encSample x => Sys2Proof.Machine.execEncSample x s
  | .decSample code => Sys2Proof.Machine.execDecSample code s
  | .encLoad predictor stepIndex => Sys2Proof.Machine.execEncLoad predictor stepIndex s
  | .decLoad predictor stepIndex => Sys2Proof.Machine.execDecLoad predictor stepIndex s
  | .framePush x => Sys2Proof.Machine.execFramePush x s
  | .framePad => Sys2Proof.Machine.execFramePad s
  | .frameClose => Sys2Proof.Machine.execFrameClose s
  | .encFrame xs => Sys2Proof.Machine.execEncFrame xs s
  | .pktDecode bytes => Sys2Proof.Machine.execPktDecode bytes s
  | .paceAnchor => Sys2Proof.Machine.execPaceAnchor s
  | .paceMark => Sys2Proof.Machine.execPaceMark s
  | .paceGate => Sys2Proof.Machine.execPaceGate s
  | .tick t => Sys2Proof.Machine.execTick t s
  | .pcmIn x => Sys2Proof.Machine.execPcmIn x s
  | .pcmEof => Sys2Proof.Machine.execPcmEof s
  | .loopRestart => Sys2Proof.Machine.execLoopRestart s
  | .sendFrame result => Sys2Proof.Machine.execSendFrame result s
  | .pcmOverrun => Sys2Proof.Machine.execPcmOverrun s
  | .cfgWrite name value => Sys2Proof.Machine.execCfgWrite name value s
  | .msgInFree body => Sys2Proof.Machine.execMsgInFree body s
  | .capDecide => Sys2Proof.Machine.execCapDecide s
  | .capTimeout => Sys2Proof.Machine.execCapTimeout s
  | .xferSendChunk => Sys2Proof.Machine.execXferSendChunk s
  | .msgInAck body => Sys2Proof.Machine.execMsgInAck body s
  | .xferAckMatch => Sys2Proof.Machine.execXferAckMatch s
  | .xferAckTimeout => Sys2Proof.Machine.execXferAckTimeout s
  | .reset => Sys2Proof.Machine.execReset s

end Sys2Proof.Machine
end

