-- ==== Sys2Proof/Machine/Schedule.lean ====
section
/-! DEFINITION. Which operation a step runs: an issued transaction if there is one (log 1), otherwise the highest
of what is enabled in the order of 60_exceptions.md R242, with its urgency: an internal step is taken before
time moves. -/

namespace Sys2Proof.Machine

/-- What a step is to do. -/
inductive Selected where
  /-- run this operation from this state, its transaction consumed -/
  | run (i : Instr) (s : State)
  /-- a message on a topic the block does not subscribe to: consumed, nothing else (30_encoding.md R78) -/
  | drop (s : State)
  /-- nothing is enabled: the block waits (60_exceptions.md R252) -/
  | wait
  /-- an issued transaction that is no operation's -/
  | reject (r : Reject)

/-- The operation an arrival stands for; none for a message on another topic (R78). -/
def arrivalInstr : Arrival → Option Instr
  | .resetIn => some .reset
  | .cmd code arg => some (commandInstr code arg)
  | .cfg name v => some (.cfgWrite name v)
  | .msg .resp body => some (.msgInFree body)
  | .msg .ack body => some (.msgInAck body)
  | .msg .req _ => none
  | .msg .data _ => none
  | .msg .other _ => none
  | .pcm x => some (.pcmIn x)
  | .pcmEof => some .pcmEof
  | .pcmOverrun => some .pcmOverrun
  | .dgram b => some (.pktDecode b)
  | .tick t => some (.tick t)

/-- The priority class of an arrival, 1 highest (R242): reset, cancel, other commands, messages, then (5 being
the internal steps) samples and datagrams, then time. -/
def arrivalClass : Arrival → Nat
  | .resetIn => 1
  | .cmd code _ => if code = 3 then 2 else 3
  | .cfg _ _ => 3
  | .msg _ _ => 4
  | .pcm _ => 6
  | .pcmEof => 6
  | .pcmOverrun => 6
  | .dgram _ => 6
  | .tick _ => 7

/-- The first arrival of a class among those offered at the present instant, that is before the next `TICK`
(log 24), with what is left. -/
def takeClass (k : Nat) : List Arrival → Option (Arrival × List Arrival)
  | [] => none
  | a :: rest =>
    if arrivalClass a = k then some (a, rest)
    else if arrivalClass a = 7 then none
    else match takeClass k rest with
      | some (b, rest') => some (b, a :: rest')
      | none => none

/-- The first sample-port or datagram arrival offered now that can be taken. The sample port keeps its order:
while it is held by a sample or end mark it cannot take, what came after waits (log 24). -/
def takeData (ready held : Bool) : List Arrival → Option (Arrival × List Arrival)
  | [] => none
  | .tick _ :: _ => none
  | .dgram b :: rest => some (.dgram b, rest)
  | .pcm x :: rest =>
    if ready && !held then some (.pcm x, rest)
    else match takeData ready true rest with
      | some (b, rest') => some (b, .pcm x :: rest')
      | none => none
  | .pcmEof :: rest =>
    if ready && !held then some (.pcmEof, rest)
    else match takeData ready true rest with
      | some (b, rest') => some (b, .pcmEof :: rest')
      | none => none
  | .pcmOverrun :: rest =>
    if !held then some (.pcmOverrun, rest)
    else match takeData ready true rest with
      | some (b, rest') => some (b, .pcmOverrun :: rest')
      | none => none
  | .resetIn :: rest =>
    match takeData ready held rest with
    | some (b, rest') => some (b, .resetIn :: rest')
    | none => none
  | .cmd code arg :: rest =>
    match takeData ready held rest with
    | some (b, rest') => some (b, .cmd code arg :: rest')
    | none => none
  | .cfg name v :: rest =>
    match takeData ready held rest with
    | some (b, rest') => some (b, .cfg name v :: rest')
    | none => none
  | .msg topic body :: rest =>
    match takeData ready held rest with
    | some (b, rest') => some (b, .msg topic body :: rest')
    | none => none

/-- The next `TICK`, past samples that are still held. -/
def takeTick : List Arrival → Option (Arrival × List Arrival)
  | [] => none
  | a :: rest =>
    if arrivalClass a = 7 then some (a, rest)
    else match takeTick rest with
      | some (b, rest') => some (b, a :: rest')
      | none => none

/-- The enabled internal step of the transfer side; the guards are disjoint (R242, 45_transfer.md R213). -/
def transferStep (s : State) : Option Instr :=
  if ackMatchEnabled s then some .xferAckMatch
  else if ackTimeoutEnabled s then some .xferAckTimeout
  else if capDecideEnabled s then some .capDecide
  else if capTimeoutEnabled s then some .capTimeout
  else if sendChunkEnabled s then some .xferSendChunk
  else none

/-- The result the datagram port returns for the next scheduled send: free (log 4). -/
def portResult (s : State) : SendResult := if Config.sendAccepted s.sends then .ok else .fail

/-- The enabled internal step of the streaming side, with the state it is taken from: a send draws the next
free port result (43_transport.md R175, R177). -/
def streamStep (s : State) : Option (Instr × State) :=
  if sendFrameEnabled s then some (.sendFrame (portResult s), s.withSends (s.sends + 1))
  else if loopRestartEnabled s then some (.loopRestart, s)
  else none

/-- An arrival taken. -/
def takeArrival (s : State) (a : Arrival) (rest : List Arrival) : Selected :=
  match arrivalInstr a with
  | some i => .run i (s.withInbox rest)
  | none => .drop (s.withInbox rest)

/-- The first of the arrivals in priority classes 1 to 3 (R242): reset and the host's commands. -/
def takeCommand (l : List Arrival) : Option (Arrival × List Arrival) :=
  match takeClass 1 l with
  | some p => some p
  | none =>
    match takeClass 2 l with
    | some p => some p
    | none => takeClass 3 l

/-- The hardware's choice below the host's commands: messages, internal steps (the transfer side's first, log 25),
samples and datagrams, time; otherwise the block waits (R242). -/
def scheduleRest (s : State) : Selected :=
  match takeClass 4 s.inbox with
  | some (a, rest) => takeArrival s a rest
  | none =>
    match transferStep s with
    | some i => .run i s
    | none =>
      match streamStep s with
      | some (i, s') => .run i s'
      | none =>
        match takeData (sampleReady s) false s.inbox with
        | some (a, rest) => takeArrival s a rest
        | none =>
          match takeTick s.inbox with
          | some (a, rest) => takeArrival s a rest
          | none => .wait

/-- The hardware's choice (R242): reset, cancel, commands; then an acknowledgment that matches is acted on before the
next inbound message is heard (45_transfer.md R206, log 23); then the rest. -/
def schedule (s : State) : Selected :=
  match takeCommand s.inbox with
  | some (a, rest) => takeArrival s a rest
  | none => if ackMatchEnabled s then .run .xferAckMatch s else scheduleRest s

/-- What the next step does: the issued transaction at the head of the script, decoded, or else the hardware's
choice. -/
def select (s : State) : Selected :=
  match s.script with
  | t :: rest =>
    match decode t with
    | .ok i => .run i (s.withScript rest)
    | .error .otherTopic => .drop (s.withScript rest)
    | .error r => .reject r
  | [] => schedule s

/-- A transaction put where the next step fetches. -/
def issue (t : Transaction) (s : State) : State := s.withScript (t :: s.script)

end Sys2Proof.Machine
end

