-- ==== Sys2Proof/Machine/Step.lean ====
section
/-! DEFINITION. One step of the block (00_scope.md R11): the selected operation's meaning; and the placing of an
instruction word where the next step fetches. -/

namespace Sys2Proof.Machine

/-- One step: the operation that is issued or that the hardware's order selects (60_exceptions.md R242) is run;
with nothing enabled the block waits and nothing changes (R252, log 30). -/
def step (s : State) : Host.Outcome State Fault Refusal :=
  match select s with
  | .run i s' => exec i s'
  | .drop s' => .next s'
  | .wait => .next s
  | .reject r => .refused (.undecodable r)

/-- The state with a word of the opcode table issued as the next operation (log 1, log 13). -/
def State.withFetchWord (s : State) (nbits w : Nat) : State := issue (tableTransaction nbits w) s

end Sys2Proof.Machine
end

