-- ==== Sys2Proof/Safety.lean ====
section
/-! DEFINITION. The terms the claims are stated in: runs of operations, the rules of the codec as relations, the
invariants of 10_state.md R34 with what makes them inductive, the transition tables of 43_transport.md R175 and
45_transfer.md R213, the message sequence of R214, and the two halves of R216. -/

namespace Sys2Proof

/-- The operations that are steps of their own: kinds `cmd`, `in`, `int` and `lsn` of 30_encoding.md R60. The
functions and the encodings are not. -/
def Instr.isStep : Instr → Bool
  | .cmdReserved => true
  | .streamStart _ _ => true
  | .xferStart _ => true
  | .cancel => true
  | .pktDecode _ => true
  | .tick _ => true
  | .pcmIn _ => true
  | .pcmEof => true
  | .loopRestart => true
  | .sendFrame _ => true
  | .pcmOverrun => true
  | .cfgWrite _ _ => true
  | .msgInFree _ => true
  | .capDecide => true
  | .capTimeout => true
  | .xferSendChunk => true
  | .msgInAck _ => true
  | .xferAckMatch => true
  | .xferAckTimeout => true
  | .reset => true
  | _ => false

/-- The steps of the streaming side (45_transfer.md R216), but for `CANCEL` and `RESET`, which are of both. -/
def Instr.isStreaming : Instr → Bool
  | .streamStart _ _ => true
  | .pcmIn _ => true
  | .pcmEof => true
  | .loopRestart => true
  | .sendFrame _ => true
  | .pcmOverrun => true
  | _ => false

/-- The steps of the transfer side (45_transfer.md R216), but for `CANCEL` and `RESET`. -/
def Instr.isTransfer : Instr → Bool
  | .xferStart _ => true
  | .msgInFree _ => true
  | .capDecide => true
  | .capTimeout => true
  | .xferSendChunk => true
  | .msgInAck _ => true
  | .xferAckMatch => true
  | .xferAckTimeout => true
  | _ => false

/-- The operations that read or write a configuration register (10_state.md R31, 43_transport.md R178,
41_packetizer.md R140, 70_reset_and_hazards.md R260). -/
def Instr.touchesConfig : Instr → Bool
  | .packet _ _ _ _ => true
  | .streamStart _ _ => true
  | .xferStart _ => true
  | .pktDecode _ => true
  | .cfgWrite _ _ => true
  | .reset => true
  | _ => false

/-- The operations that one transaction alone is decoded to: all but the commands with ignored argument bits
(30_encoding.md R72) and those that carry decimal numbers, whose leading zeros are free (R76). -/
def Instr.oneSpelling : Instr → Bool
  | .free _ _ => false
  | .start _ => false
  | .chunk _ _ _ => false
  | .ack _ => false
  | .cmdReserved => false
  | .streamStart _ _ => false
  | .cancel => false
  | .cfgWrite _ _ => false
  | _ => true

/-- The operations that own `ENC` (10_state.md R14, R15). -/
def Instr.writesEnc : Instr → Bool
  | .streamStart _ _ => true
  | .encSample _ => true
  | .encLoad _ _ => true
  | .framePush _ => true
  | .framePad => true
  | .encFrame _ => true
  | .pcmIn _ => true
  | .pcmEof => true
  | .loopRestart => true
  | .reset => true
  | _ => false

/-- The operations that own `DEC` (10_state.md R16): those at the formats `N4`, `PB` and `PKT`, `DEC_SAMPLE`,
`DEC_LOAD`, `PKT_DECODE` and `RESET`. -/
def Instr.writesDec (i : Instr) : Bool :=
  match i.source with
  | .n4 => true
  | .pb => true
  | .pkt => true
  | .dgramIn => true
  | .resetIn => true
  | .call .decSample => true
  | .call .decLoad => true
  | _ => false

/-- The operations that write `PKT.seq` (10_state.md R17). -/
def Instr.writesSeq : Instr → Bool
  | .streamStart _ _ => true
  | .frameClose => true
  | .encFrame _ => true
  | .pcmIn _ => true
  | .pcmEof => true
  | .reset => true
  | _ => false

/-- The operations that write the snapshot in `PKT.hdr_predictor` and `PKT.hdr_step_index` (10_state.md R18): those
that push a sample into an empty frame. -/
def Instr.writesSnapshot : Instr → Bool
  | .framePush _ => true
  | .encFrame _ => true
  | .pcmIn _ => true
  | .reset => true
  | _ => false

/-- The operations that write `PKT.pos` and `PKT.payload` (10_state.md R19, 43_transport.md R167, R174). The row of the
event `CANCELLED` ends the session it reports (log 17). -/
def Instr.writesFrame : Instr → Bool
  | .streamStart _ _ => true
  | .framePush _ => true
  | .framePad => true
  | .frameClose => true
  | .encFrame _ => true
  | .pcmIn _ => true
  | .pcmEof => true
  | .cancel => true
  | .eventCancelled _ => true
  | .reset => true
  | _ => false

/-- The operations that write `PKT.out` (10_state.md R19, 43_transport.md R167, R174). -/
def Instr.writesOut : Instr → Bool
  | .streamStart _ _ => true
  | .frameClose => true
  | .encFrame _ => true
  | .pcmIn _ => true
  | .pcmEof => true
  | .sendFrame _ => true
  | .cancel => true
  | .eventCancelled _ => true
  | .reset => true
  | _ => false

/-- The operations that own the pacer (10_state.md R21). -/
def Instr.writesPacer : Instr → Bool
  | .streamStart _ _ => true
  | .paceAnchor => true
  | .paceMark => true
  | .loopRestart => true
  | .sendFrame _ => true
  | .reset => true
  | _ => false

/-- The operations that write `STX.state` (10_state.md R22). -/
def Instr.writesStxState : Instr → Bool
  | .streamStart _ _ => true
  | .pcmIn _ => true
  | .pcmEof => true
  | .loopRestart => true
  | .sendFrame _ => true
  | .cancel => true
  | .eventCancelled _ => true
  | .reset => true
  | _ => false

/-- The operations that write `STX.eof` (10_state.md R22). -/
def Instr.writesEof : Instr → Bool
  | .streamStart _ _ => true
  | .pcmEof => true
  | .sendFrame _ => true
  | .cancel => true
  | .eventCancelled _ => true
  | .reset => true
  | _ => false

/-- The operations that write `STX.mode`, `STX.loop` and `STX.cfg` (10_state.md R22, R31). -/
def Instr.writesStxRecord : Instr → Bool
  | .streamStart _ _ => true
  | .reset => true
  | _ => false

/-- The operations that write `STX.tx_fail_count` (10_state.md R23): those that report `TX_SEND_FAIL`. -/
def Instr.writesTxFails : Instr → Bool
  | .sendFrame .fail => true
  | .eventTxSendFail _ => true
  | .reset => true
  | _ => false

/-- The operations that write `STX.overrun_count` (10_state.md R23): those that report `CAPTURE_OVERRUN`. -/
def Instr.writesOverruns : Instr → Bool
  | .pcmOverrun => true
  | .eventCaptureOverrun _ => true
  | .reset => true
  | _ => false

/-- The operations that write `LSN.malformed_count` (10_state.md R23): those that report `MALFORMED_REPLY`. -/
def Instr.writesMalformed : Instr → Bool
  | .free _ _ => true
  | .ack _ => true
  | .msgInFree _ => true
  | .msgInAck _ => true
  | .eventMalformedReply _ => true
  | .reset => true
  | _ => false

/-- The operations that write `DEC.reject_count` (10_state.md R23): those that report `DEC_REJECT`. -/
def Instr.writesRejects : Instr → Bool
  | .packet _ _ _ _ => true
  | .pktDecode _ => true
  | .eventDecReject _ => true
  | .reset => true
  | _ => false

/-- The operations that write what the sample port remembers of a session (the model's own field, log 35). -/
def Instr.writesPlayback : Instr → Bool
  | .streamStart _ _ => true
  | .pcmIn _ => true
  | .loopRestart => true
  | .reset => true
  | _ => false

/-- The operations that write `XFER.state` (10_state.md R26, 45_transfer.md R213). The rows of the fatal events end the
session they report (log 17). -/
def Instr.writesXferState : Instr → Bool
  | .xferStart _ => true
  | .capDecide => true
  | .capTimeout => true
  | .xferSendChunk => true
  | .xferAckMatch => true
  | .xferAckTimeout => true
  | .cancel => true
  | .eventCapNoReply _ => true
  | .eventCapInsufficient _ => true
  | .eventAckTimeout _ => true
  | .eventCancelled _ => true
  | .reset => true
  | _ => false

/-- The operations that write `XFER.total`, `XFER.file_size` and `XFER.cfg` (10_state.md R27, R31). -/
def Instr.writesXferRecord : Instr → Bool
  | .xferStart _ => true
  | .reset => true
  | _ => false

/-- The operations that write `XFER.idx` and `XFER.last_acked` (10_state.md R27, R28). -/
def Instr.writesIdx : Instr → Bool
  | .xferStart _ => true
  | .xferAckMatch => true
  | .reset => true
  | _ => false

/-- The operations that write `XFER.deadline` (10_state.md R28). -/
def Instr.writesDeadline : Instr → Bool
  | .xferStart _ => true
  | .xferSendChunk => true
  | .reset => true
  | _ => false

/-- The operations that return a value (the model's own field, log 3): functions, and the code rows that a decoder reads
(log 14). -/
def Instr.writesRet : Instr → Bool
  | .code0x0 => true
  | .code0x1 => true
  | .code0x2 => true
  | .code0x3 => true
  | .code0x4 => true
  | .code0x5 => true
  | .code0x6 => true
  | .code0x7 => true
  | .code0x8 => true
  | .code0x9 => true
  | .code0xA => true
  | .code0xB => true
  | .code0xC => true
  | .code0xD => true
  | .code0xE => true
  | .code0xF => true
  | .payloadByte _ _ => true
  | .recon _ _ _ => true
  | .encSample _ => true
  | .decSample _ => true
  | .paceGate => true
  | _ => false

/-- The operations that write the cell of the capacity reply (10_state.md R24). -/
def Instr.writesReplyCell : Instr → Bool
  | .free _ _ => true
  | .xferStart _ => true
  | .msgInFree _ => true
  | .capDecide => true
  | .capTimeout => true
  | .reset => true
  | _ => false

/-- The operations that write the cell of the last acknowledgment (10_state.md R25). -/
def Instr.writesAckCell : Instr → Bool
  | .ack _ => true
  | .xferStart _ => true
  | .msgInAck _ => true
  | .reset => true
  | _ => false

end Sys2Proof

namespace Sys2Proof.Machine

/-! ### Runs -/

/-- Operations run one after another, stopping at the first that has no next state: a run of the system of
00_scope.md R11 with the guards alone. -/
def runAll : List Instr → State → Answer
  | [], s => .next s
  | i :: is, s =>
    match exec i s with
    | .next t => runAll is t
    | .fault f => .fault f
    | .refused r => .refused r

/-- An answer with its next state changed. -/
def mapNext (f : State → State) : Answer → Answer
  | .next t => .next (f t)
  | .fault x => .fault x
  | .refused x => .refused x

/-- `ENC_SAMPLE` of each sample from `s` gives these codes, passes through these predictors and ends in `t`. -/
def EncRun : State → List Sample → List Code → List Sample → State → Prop
  | s, [], [], [], t => t = s
  | s, x :: xs, c :: cs, p :: ps, t =>
    ∃ s1, exec (.encSample x) s = .next s1 ∧ s1.ret = .code c ∧ s1.enc.predictor = p ∧
      EncRun s1 xs cs ps t
  | _, _, _, _, _ => False

/-- `DEC_SAMPLE` of each code from `s` returns these samples and ends in `t`. -/
def DecRun : State → List Code → List Sample → State → Prop
  | s, [], [], t => t = s
  | s, c :: cs, p :: ps, t =>
    ∃ s1, exec (.decSample c) s = .next s1 ∧ s1.ret = .sample p ∧ DecRun s1 cs ps t
  | _, _, _, _ => False

/-! ### The codec's rules as relations on integers -/

/-- 40_codec.md R93, `delta`: the parts of the step that the magnitude bits select. -/
def deltaRule (step : Nat) (c : Code) : Nat :=
  step / 8 + (if c.getLsbD 2 then step else 0) + (if c.getLsbD 1 then step / 2 else 0)
    + (if c.getLsbD 0 then step / 4 else 0)

/-- 40_codec.md R93: `(p', i', delta) = RECON(p, i, c)`, on integers. -/
def ReconRule (p : Sample) (i : StepIndex) (c : Code) (p' : Sample) (i' : StepIndex) (delta : Nat) :
    Prop :=
  delta = deltaRule (romStep i) c ∧
  p'.toInt = max (-32768) (min 32767 (if c.getLsbD 3 then p.toInt - delta else p.toInt + delta)) ∧
  (i'.toNat : Int) = max 0 (min 88 ((i.toNat : Int) + romIdx c))

/-- 40_codec.md R94: the code of `x` against predictor `p` and step `step`, bit by bit. -/
def QuantiseRule (p : Sample) (step : Nat) (x : Sample) (c : Code) : Prop :=
  ∃ d0 d1 d2 : Nat,
    (d0 : Int) = |x.toInt - p.toInt| ∧
    (c.getLsbD 3 = true ↔ x.toInt < p.toInt) ∧
    (c.getLsbD 2 = true ↔ step ≤ d0) ∧ d0 = d1 + (if c.getLsbD 2 then step else 0) ∧
    (c.getLsbD 1 = true ↔ step / 2 ≤ d1) ∧ d1 = d2 + (if c.getLsbD 1 then step / 2 else 0) ∧
    (c.getLsbD 0 = true ↔ step / 4 ≤ d2)

/-- A code executed as an instruction: the decoder moves by `delta`, up or down, and its index by `adj`, both
clamped; nothing else changes but the returned sample (40_codec.md R95 to R111). -/
def CodeDecodes (i : Instr) (s : State) (delta : Nat) (up : Bool) (adj : Int) : Prop :=
  ∃ (p' : Sample) (i' : StepIndex),
    p'.toInt = max (-32768) (min 32767
      (if up then s.dec.predictor.toInt + delta else s.dec.predictor.toInt - delta)) ∧
    (i'.toNat : Int) = max 0 (min 88 ((s.dec.stepIndex.toNat : Int) + adj)) ∧
    exec i s = .next { s with dec := { predictor := p', stepIndex := i' }, ret := .sample p' }

/-- `ENC_SAMPLE(x)` in `s` returns the code `c`. -/
def EncoderGives (s : State) (x : Sample) (c : Code) : Prop :=
  ∃ t, exec (.encSample x) s = .next t ∧ t.ret = .code c

/-! ### The sample source as relations -/

/-- A sample the source may supply, with what is remembered after it: any sample in live mode, any in the first pass
of a file, which is recorded, and in a later pass the next one of the record (70_reset_and_hazards.md R268). -/
def Supplies (mode : Mode) (x : Sample) (p q : Playback) : Prop :=
  (mode = .live ∧ q = p) ∨
  (mode = .file ∧ p.replay = none ∧ q = { p with pass := p.pass ++ [x] }) ∨
  (mode = .file ∧ ∃ ys, p.replay = some (x :: ys) ∧ q = { p with replay := some ys })

/-- The source may end its pass: always in live mode and in the first pass of a file, and in a later pass after the
last sample of the record (70_reset_and_hazards.md R268). -/
def MayEnd (mode : Mode) (p : Playback) : Prop :=
  mode = .live ∨ p.replay = none ∨ p.replay = some []

/-! ### Invariants -/

/-- Step indices are 0 to 88 in every codec state (10_state.md R34). -/
def CodecRange (s : State) : Prop :=
  s.enc.stepIndex.toNat ≤ 88 ∧ s.dec.stepIndex.toNat ≤ 88 ∧ s.pkt.hdrStepIndex.toNat ≤ 88

/-- Both byte memories are in canonical form. -/
def MemCanonical (s : State) : Prop := Mem.wf s.pkt.payload = true ∧ Mem.wf s.file = true

/-- Every time fits `W_TIME` bits (10_state.md R21, R28, R30, 70_reset_and_hazards.md R274). -/
def TimesFit (s : State) : Prop :=
  s.now < 2 ^ 64 ∧ s.pacer.startTime < 2 ^ 64 ∧ s.pacer.targetTime < 2 ^ 64 ∧
  s.xfer.deadline < 2 ^ 64

/-- Every size and index fits `W_SIZE` bits (10_state.md R24, R25, R27, R28). -/
def NumbersFit (s : State) : Prop :=
  s.xfer.idx < 2 ^ 32 ∧ s.xfer.total < 2 ^ 32 ∧ s.xfer.fileSize < 2 ^ 32 ∧
  (∀ f r, s.lsn.capReply = some (f, r) → f < 2 ^ 32 ∧ r < 2 ^ 32) ∧
  (∀ a, s.lsn.lastAck = some a → a < 2 ^ 32) ∧
  (∀ a, s.xfer.lastAcked = some a → a < 2 ^ 32)

/-- What every operation keeps from every state: the legal ranges of the registers (10_state.md R34, first part)
and the canonical memories. -/
def RangeInv (s : State) : Prop := CodecRange s ∧ MemCanonical s ∧ TimesFit s ∧ NumbersFit s

/-- The invariant of 10_state.md R21, while the latched `PACE_DEN` is not 0. -/
def PacerOnSchedule (s : State) : Prop :=
  s.stx.cfg.paceDen ≠ 0 →
    s.pacer.targetTime = s.pacer.startTime
      + s.pacer.framesSent * s.stx.cfg.frameMs * s.stx.cfg.paceNum * 1000000
        / (s.stx.cfg.paceDen * 1000)

/-- The streaming half of 10_state.md R34, with what makes it inductive. -/
def StreamInv (s : State) : Prop :=
  (s.stx.state ≠ .idle →
    0 < s.stx.cfg.frameSamples ∧ 0 < s.stx.cfg.paceDen ∧ s.pkt.pos ≤ s.stx.cfg.frameSamples) ∧
  (s.stx.state = .filling → s.pkt.pos < s.stx.cfg.frameSamples) ∧
  (s.pkt.out.isSome = true ↔ s.stx.state = .ready) ∧
  (s.stx.state ≠ .filling → s.pkt.pos = 0) ∧
  (s.stx.eof = true → s.stx.state = .ready) ∧
  (∀ k, s.pkt.pos ≤ k → getNibble k (Mem.read s.pkt.payload (k / 2)) = 0)

/-- The transfer half of 10_state.md R34, with what makes it inductive. -/
def TransferInv (s : State) : Prop :=
  (xferActive s.xfer.state = true →
    0 < s.xfer.cfg.chunkSize ∧ s.xfer.cfg.idx0 ≤ 1 ∧
    s.xfer.total = chunkCount s.xfer.fileSize s.xfer.cfg.chunkSize ∧
    s.xfer.cfg.idx0 + s.xfer.total < 2 ^ 32) ∧
  (s.xfer.state = .negotiating → s.xfer.idx = s.xfer.cfg.idx0) ∧
  (s.xfer.state = .sendingChunk ∨ s.xfer.state = .awaitingAck →
    s.xfer.cfg.idx0 ≤ s.xfer.idx ∧ s.xfer.idx + 1 ≤ s.xfer.cfg.idx0 + s.xfer.total)

/-- The hardware's sessions: no operation is issued past the priority order, the memories are canonical, and all of
R34 holds. -/
def SessionInv (s : State) : Prop :=
  s.script = [] ∧ CodecRange s ∧ MemCanonical s ∧ StreamInv s ∧ TransferInv s

/-- The refusals the hardware can meet: configuration, time and index limits, and a source that does not replay its
pass (00_scope.md R12, 93_implementation_defined.md U17, U18, U19). -/
def refusedByRule : Refusal → Bool
  | .streamConfigUnwritten => true
  | .streamConfigIllegal => true
  | .xferConfigUnwritten => true
  | .xferConfigIllegal => true
  | .chunkIndexOverflow => true
  | .timeOverflow => true
  | .backwardTime => true
  | .decodeConfigUnwritten => true
  | .frameLengthZero => true
  | .sourceNotReplayed => true
  | _ => false

/-! ### The values of reset -/

/-- The reset values the spec gives (10_state.md R36, 70_reset_and_hazards.md R262). -/
def ResetValues (s : State) : Prop :=
  s.enc = { predictor := 0, stepIndex := 0 } ∧ s.dec = { predictor := 0, stepIndex := 0 } ∧
  s.decRejects = 0 ∧
  s.pkt = { seq := 0, hdrPredictor := 0, hdrStepIndex := 0, pos := 0, payload := [], out := none } ∧
  s.pacer = { startTime := 0, framesSent := 0, targetTime := 0 } ∧
  s.stx.state = .idle ∧ s.stx.mode = .file ∧ s.stx.loop = false ∧ s.stx.eof = false ∧
  s.stx.txFailCount = 0 ∧ s.stx.overrunCount = 0 ∧
  s.lsn = { capReply := none, lastAck := none, malformedCount := 0 } ∧
  s.xfer.state = .idle ∧ s.xfer.idx = 0 ∧ s.xfer.total = 0 ∧ s.xfer.fileSize = 0 ∧
  s.xfer.deadline = 0 ∧ s.xfer.lastAcked = none ∧
  ∀ name, readCfg name s.cfg = none

/-! ### Transition tables -/

/-- The data of chunk number `j` of the session, counting from 0 (45_transfer.md R203). -/
def chunkData (s : State) (j : Nat) : List Byte :=
  Mem.readBytes s.file (j * s.xfer.cfg.chunkSize)
    (min s.xfer.cfg.chunkSize (s.xfer.fileSize - j * s.xfer.cfg.chunkSize))

/-- The configuration `STREAM_START` accepts: every register it latches written, one channel, and a rate, a
duration, a divisor and a frame length that are not 0 (43_transport.md R167, 41_packetizer.md R131). -/
def StreamConfigLegal (c : CfgRegs) : Prop :=
  c.destAddr ≠ none ∧ c.destPort ≠ none ∧ c.paceNum ≠ none ∧ c.channels = some 1 ∧
  ∃ rate ms den, c.sampleRate = some rate ∧ c.frameMs = some ms ∧ c.paceDen = some den ∧
    rate ≠ 0 ∧ ms ≠ 0 ∧ den ≠ 0 ∧ rate * ms / 1000 ≠ 0

/-- The configuration `XFER_START(S)` accepts at the time `now`: every register it latches written, a chunk size that
is not 0, a first index 0 or 1, a deadline that fits the time base and indices that fit their width
(45_transfer.md R202, R203). -/
def XferConfigLegal (c : CfgRegs) (now size : Nat) : Prop :=
  c.ackTimeout ≠ none ∧
  ∃ chunk wait z, c.chunkSize = some chunk ∧ c.capTimeout = some wait ∧ c.idx0 = some z ∧
    chunk ≠ 0 ∧ z ≤ 1 ∧ now + wait < 2 ^ 64 ∧ ¬((size + chunk - 1) / chunk = 2 ^ 32 - 1 ∧ z = 1)

/-- What `CANCEL` reports: the end of a running stream, then that of an active transfer, newest first
(60_exceptions.md R238). -/
def cancelReports (s : State) : List Output :=
  (if xferActive s.xfer.state then [.event 7 1] else [])
    ++ (if s.stx.state = .idle then [] else [.event 7 0])

/-- The rows of 43_transport.md R175 that change `STX.state`: from `s` to `t` by a step, under the row's condition and
with everything the step emits. The table's output column names datagrams and rewinds; the reports on the
`EVENT` port that 60_exceptions.md R232 and R238 add are stated with them. -/
def StreamEdge (i : Instr) (s t : State) : Prop :=
  match i with
  | .streamStart _ _ =>
    s.stx.state = .idle ∧ StreamConfigLegal s.cfg ∧ t.stx.state = .filling ∧ t.outputs = s.outputs
  | .pcmIn _ =>
    s.stx.state = .filling ∧ s.pkt.pos + 1 = s.stx.cfg.frameSamples ∧ t.stx.state = .ready ∧
    t.outputs = s.outputs
  | .pcmEof =>
    s.stx.state = .filling ∧ t.outputs = s.outputs ∧
    ((0 < s.pkt.pos ∧ t.stx.state = .ready ∧ t.stx.eof = true) ∨
     (s.pkt.pos = 0 ∧ s.stx.loop = true ∧ t.stx.state = .loopWait) ∨
     (s.pkt.pos = 0 ∧ s.stx.loop = false ∧ t.stx.state = .idle))
  | .sendFrame r =>
    s.stx.state = .ready ∧ (s.stx.mode = .live ∨ s.pacer.targetTime ≤ s.now) ∧
    ((s.stx.eof = false ∧ t.stx.state = .filling) ∨
     (s.stx.eof = true ∧ s.stx.loop = true ∧ t.stx.state = .loopWait) ∨
     (s.stx.eof = true ∧ s.stx.loop = false ∧ t.stx.state = .idle)) ∧
    ∃ b, s.pkt.out = some b ∧
      t.outputs = (if r = .fail then [.event 1 (s.pkt.seq - 1)] else [])
        ++ .dgram s.stx.cfg.destAddr s.stx.cfg.destPort b :: s.outputs
  | .loopRestart =>
    s.stx.state = .loopWait ∧ (s.stx.mode = .live ∨ s.pacer.targetTime ≤ s.now) ∧
    t.stx.state = .filling ∧ t.outputs = .pcmRewind :: s.outputs
  | .cancel =>
    s.stx.state ≠ .idle ∧ t.stx.state = .idle ∧ t.outputs = cancelReports s ++ s.outputs
  | .reset => t.stx.state = .idle ∧ t.outputs = s.outputs
  | _ => False

/-- The rows of 45_transfer.md R213: from `s` to `t` by a step, under the row's condition, with `XFER.idx` and everything
the step emits. The table's output column names messages; the reports on the `EVENT` port that 60_exceptions.md
R234, R235, R236 and R238 add are stated with them. -/
def TransferEdge (i : Instr) (s t : State) : Prop :=
  match i with
  | .xferStart size =>
    xferActive s.xfer.state = false ∧ XferConfigLegal s.cfg s.now size.toNat ∧
    t.xfer.state = .negotiating ∧ s.cfg.idx0 = some t.xfer.idx ∧
    t.outputs = .msg .req Config.reqToken :: s.outputs
  | .capDecide =>
    s.xfer.state = .negotiating ∧ t.xfer.idx = s.xfer.idx ∧
    ∃ f r, s.lsn.capReply = some (f, r) ∧
      ((s.xfer.fileSize ≤ f + r ∧ 0 < s.xfer.total ∧ t.xfer.state = .sendingChunk ∧
          t.outputs = .msg .data (startBody s.xfer.fileSize) :: s.outputs) ∨
       (s.xfer.fileSize ≤ f + r ∧ s.xfer.total = 0 ∧ t.xfer.state = .complete ∧
          t.outputs =
            .msg .data litEnd :: .msg .data (startBody s.xfer.fileSize) :: s.outputs) ∨
       (f + r < s.xfer.fileSize ∧ t.xfer.state = .abortedInsufficientSpace ∧
          t.outputs = .event 4 0 :: s.outputs))
  | .capTimeout =>
    s.xfer.state = .negotiating ∧ s.lsn.capReply = none ∧ s.xfer.deadline ≤ s.now ∧
    t.xfer.state = .abortedNoReply ∧ t.xfer.idx = s.xfer.idx ∧ t.outputs = .event 3 0 :: s.outputs
  | .xferSendChunk =>
    s.xfer.state = .sendingChunk ∧ t.xfer.state = .awaitingAck ∧ t.xfer.idx = s.xfer.idx ∧
    t.outputs = .msg .data (chunkBody s.xfer.idx s.xfer.total
      (chunkData s (s.xfer.idx - s.xfer.cfg.idx0))) :: s.outputs
  | .xferAckMatch =>
    s.xfer.state = .awaitingAck ∧ s.lsn.lastAck = some s.xfer.idx ∧
    ((s.xfer.idx + 1 ≠ s.xfer.cfg.idx0 + s.xfer.total ∧ t.xfer.state = .sendingChunk ∧
        t.xfer.idx = s.xfer.idx + 1 ∧ t.outputs = s.outputs) ∨
     (s.xfer.idx + 1 = s.xfer.cfg.idx0 + s.xfer.total ∧ t.xfer.state = .complete ∧
        t.xfer.idx = s.xfer.idx ∧ t.outputs = .msg .data litEnd :: s.outputs))
  | .xferAckTimeout =>
    s.xfer.state = .awaitingAck ∧ s.lsn.lastAck ≠ some s.xfer.idx ∧ s.xfer.deadline ≤ s.now ∧
    t.xfer.state = .abortedTimeout ∧ t.xfer.idx = s.xfer.idx ∧
    t.outputs = .event 5 (BitVec.ofNat 32 s.xfer.idx) :: s.outputs
  | .cancel =>
    xferActive s.xfer.state = true ∧ t.xfer.state = .abortedCancelled ∧ t.xfer.idx = s.xfer.idx ∧
    t.outputs = cancelReports s ++ s.outputs
  | .reset => t.xfer.state = .idle ∧ t.xfer.idx = 0 ∧ t.outputs = s.outputs
  | _ => False

/-! ### The messages of a transfer session -/

/-- The request message, which opens a session's traffic (45_transfer.md R202). -/
def isRequest : Output → Bool
  | .msg .req _ => true
  | _ => false

/-- The body of a message on `T_DATA`. -/
def dataBody : Output → Option (List Byte)
  | .msg .data b => some b
  | _ => none

/-- The bodies emitted on `T_DATA` since the last request, in the order of emission. -/
def sessionBodies (s : State) : List (List Byte) :=
  ((s.outputs.takeWhile (fun o => !isRequest o)).filterMap dataBody).reverse

/-- The first `k` `CHUNK` messages of the session (45_transfer.md R205). -/
def chunkBodies (s : State) (k : Nat) : List (List Byte) :=
  (List.range k).map fun j =>
    chunkBody (s.xfer.cfg.idx0 + j) s.xfer.total (chunkData s j)

/-- The traffic of the session so far on `T_DATA`, by the state it has reached (45_transfer.md R214 (a), (c), (d),
(e)). -/
def TrafficInv (s : State) : Prop :=
  match s.xfer.state with
  | .idle => True
  | .negotiating => sessionBodies s = []
  | .sendingChunk =>
    sessionBodies s = startBody s.xfer.fileSize :: chunkBodies s (s.xfer.idx - s.xfer.cfg.idx0)
  | .awaitingAck =>
    sessionBodies s = startBody s.xfer.fileSize :: chunkBodies s (s.xfer.idx - s.xfer.cfg.idx0 + 1)
  | .complete =>
    sessionBodies s = startBody s.xfer.fileSize :: (chunkBodies s s.xfer.total ++ [litEnd])
  | .abortedInsufficientSpace => sessionBodies s = []
  | .abortedNoReply => sessionBodies s = []
  | .abortedTimeout =>
    sessionBodies s = startBody s.xfer.fileSize :: chunkBodies s (s.xfer.idx - s.xfer.cfg.idx0 + 1)
  | .abortedCancelled =>
    sessionBodies s = [] ∨
      ∃ k, k ≤ s.xfer.total ∧ sessionBodies s = startBody s.xfer.fileSize :: chunkBodies s k

/-! ### The two sides -/

/-- What the steps of the streaming side read: their own registers, the configuration, the time, and what the sample
port remembers (log 35). -/
def sameStreamView (s u : State) : Prop :=
  s.cfg = u.cfg ∧ s.enc = u.enc ∧ s.pkt = u.pkt ∧ s.pacer = u.pacer ∧ s.stx = u.stx ∧ s.now = u.now ∧
  s.playback = u.playback

/-- What the steps of the transfer side read: their own registers, the file, the configuration, the time. -/
def sameTransferView (s u : State) : Prop :=
  s.cfg = u.cfg ∧ s.lsn = u.lsn ∧ s.xfer = u.xfer ∧ s.file = u.file ∧ s.now = u.now

/-! ### The priority order -/

/-- The arrivals offered at the present instant: those before the next `TICK` (log 24). -/
def offeredNow (s : State) : List Arrival := s.inbox.takeWhile fun a => arrivalClass a != 7

/-- Some internal step of the controller is enabled. -/
def internalEnabled (s : State) : Bool :=
  ackMatchEnabled s || ackTimeoutEnabled s || capDecideEnabled s || capTimeoutEnabled s ||
    sendChunkEnabled s || sendFrameEnabled s || loopRestartEnabled s

/-- What a step does with an arrival it takes: its operation, or nothing for a message on another topic. -/
def runArrival (a : Arrival) (s : State) : Answer :=
  match arrivalInstr a with
  | some i => exec i s
  | none => .next s

end Sys2Proof.Machine
end

