-- ==== Sys2Proof/Certificates/Slice0/Obligations.lean ====
section
/-! DEFINITION. The statements for the provers, from the numbered rules of spec/. Where a clause rests on a
choice of the model its docstring names the log entry. -/

open Sys2Proof Sys2Proof.Machine

/-! ### Encodings -/

/-- Decoding what an operation is written as gives the operation back, for every well-formed operation: no
operand is dropped (30_encoding.md R61 to R75). The byte layouts of the operations without an encoding are log 12. -/
def Obligations.DecodeInvertsEncode : Prop :=
  ∀ i : Instr, i.wellFormed = true → decode (encode i) = .ok i

/-- The decoder gives well-formed operations only (30_encoding.md R76, R77, R83, 60_exceptions.md R231); and encoding an
operation that has one spelling gives back the transaction it was decoded from (30_encoding.md R61, R62, R63, R70,
R72, R74). More than one have the commands with ignored argument bits and the operations that carry decimal numbers,
with leading zeros or without. A byte string that is no packet and a body that is no message of its topic are the
datagram and the inbound message the spec rejects and counts (R77, R78, log 14, log 16). That the operations named
directly, the ports and the time have one spelling is the model's byte layout (log 12). -/
def Obligations.DecodedOperationsAreWellFormedAndEncodeBack : Prop :=
  ∀ (t : Transaction) (i : Instr), decode t = .ok i →
    i.wellFormed = true ∧ (i.oneSpelling = true → t.source = i.source → encode i = t) ∧
    (t.source ≠ i.source →
      (t.source = .pkt ∧ i = .pktDecode t.bytes) ∨ (t.source = .msg .resp ∧ i = .msgInFree t.bytes) ∨
      (t.source = .msg .ack ∧ i = .msgInAck t.bytes))

/-- Words written out from the encodings of 30_encoding.md R61, R62, R63, R67 to R72 decode to the operations they
stand for. That the first two, words of the opcode table, are read as a code and as a payload byte is the model's
choice (log 13), and so are the five bytes of a command word (log 12). -/
def Obligations.WrittenWordsDecode : Prop :=
  decodeTableWord 8 0x0F = some .code0xF ∧
  decodeTableWord 8 0x77 = some (.payloadByte 0x7 0x7) ∧
  decode { source := .pkt, bytes := [0x01, 0x02, 0x03, 0x04, 0xFF, 0xF5, 0x08, 0x77, 0xF7] }
    = .ok (.packet 0x01020304 (-11) 8 [0x77, 0xF7]) ∧
  decode { source := .msg .ack, bytes := [0x41, 0x43, 0x4B, 0x3A, 0x30, 0x30, 0x37] } = .ok (.ack 7) ∧
  decode { source := .msg .data, bytes := [0x45, 0x4E, 0x44] } = .ok .endMsg ∧
  decode { source := .cmd, bytes := [0x01, 0x00, 0x00, 0x00, 0x03] } = .ok (.streamStart .live true) ∧
  decode { source := .cmd, bytes := [0x02, 0x00, 0x00, 0x00, 0x0A] } = .ok (.xferStart 10)

/-- 30_encoding.md R75 and R76. `dec n` is a string of digits with value `n`, no other such string is shorter,
and it has no leading zero unless it is `"0"`; `undec` reads exactly the non-empty strings of digits whose value
is below 2^32. -/
def Obligations.DecimalNumbersReadAndWritten : Prop :=
  (∀ n : Nat,
    (∀ b ∈ dec n, 0x30 ≤ b.toNat ∧ b.toNat ≤ 0x39) ∧ decValue (dec n) = n ∧
    ((dec n).head? = some 0x30 → dec n = [0x30]) ∧
    ∀ b : List Byte, b ≠ [] → (∀ d ∈ b, 0x30 ≤ d.toNat ∧ d.toNat ≤ 0x39) → decValue b = n →
      (dec n).length ≤ b.length) ∧
  (∀ (b : List Byte) (n : Nat), undec b = some n ↔
    b ≠ [] ∧ (∀ d ∈ b, 0x30 ≤ d.toNat ∧ d.toNat ≤ 0x39) ∧ decValue b = n ∧ n < 2 ^ 32)

/-! ### The codec -/

/-- 40_codec.md R96 to R111, on the decoder: what each of the sixteen codes adds or subtracts and by how much it
moves the index. A code row acts on `DEC` (log 14). -/
def Obligations.CodesMoveTheDecoder : Prop :=
  ∀ s : State, s.dec.stepIndex.toNat ≤ 88 →
    let step := romStep s.dec.stepIndex
    CodeDecodes .code0x0 s (step / 8) true (-1) ∧
    CodeDecodes .code0x1 s (step / 8 + step / 4) true (-1) ∧
    CodeDecodes .code0x2 s (step / 8 + step / 2) true (-1) ∧
    CodeDecodes .code0x3 s (step / 8 + step / 2 + step / 4) true (-1) ∧
    CodeDecodes .code0x4 s (step / 8 + step) true 2 ∧
    CodeDecodes .code0x5 s (step / 8 + step + step / 4) true 4 ∧
    CodeDecodes .code0x6 s (step / 8 + step + step / 2) true 6 ∧
    CodeDecodes .code0x7 s (step / 8 + step + step / 2 + step / 4) true 8 ∧
    CodeDecodes .code0x8 s (step / 8) false (-1) ∧
    CodeDecodes .code0x9 s (step / 8 + step / 4) false (-1) ∧
    CodeDecodes .code0xA s (step / 8 + step / 2) false (-1) ∧
    CodeDecodes .code0xB s (step / 8 + step / 2 + step / 4) false (-1) ∧
    CodeDecodes .code0xC s (step / 8 + step) false 2 ∧
    CodeDecodes .code0xD s (step / 8 + step + step / 4) false 4 ∧
    CodeDecodes .code0xE s (step / 8 + step + step / 2) false 6 ∧
    CodeDecodes .code0xF s (step / 8 + step + step / 2 + step / 4) false 8

/-- 40_codec.md R96 to R111, "produced when": the encoder gives each code exactly on its range of
`diff = x - ENC.predictor`. -/
def Obligations.CodesProducedInTheirRanges : Prop :=
  ∀ (s : State) (x : Sample), s.enc.stepIndex.toNat ≤ 88 →
    let step := romStep s.enc.stepIndex
    let half : Int := (step / 2 : Nat)
    let quarter : Int := (step / 4 : Nat)
    let d : Int := x.toInt - s.enc.predictor.toInt
    (EncoderGives s x 0x0 ↔ 0 ≤ d ∧ d < quarter) ∧
    (EncoderGives s x 0x1 ↔ quarter ≤ d ∧ d < half) ∧
    (EncoderGives s x 0x2 ↔ half ≤ d ∧ d < half + quarter) ∧
    (EncoderGives s x 0x3 ↔ half + quarter ≤ d ∧ d < step) ∧
    (EncoderGives s x 0x4 ↔ step ≤ d ∧ d < step + quarter) ∧
    (EncoderGives s x 0x5 ↔ step + quarter ≤ d ∧ d < step + half) ∧
    (EncoderGives s x 0x6 ↔ step + half ≤ d ∧ d < step + half + quarter) ∧
    (EncoderGives s x 0x7 ↔ step + half + quarter ≤ d) ∧
    (EncoderGives s x 0x8 ↔ -quarter < d ∧ d < 0) ∧
    (EncoderGives s x 0x9 ↔ quarter ≤ -d ∧ -d < half) ∧
    (EncoderGives s x 0xA ↔ half ≤ -d ∧ -d < half + quarter) ∧
    (EncoderGives s x 0xB ↔ half + quarter ≤ -d ∧ -d < step) ∧
    (EncoderGives s x 0xC ↔ step ≤ -d ∧ -d < step + quarter) ∧
    (EncoderGives s x 0xD ↔ step + quarter ≤ -d ∧ -d < step + half) ∧
    (EncoderGives s x 0xE ↔ step + half ≤ -d ∧ -d < step + half + quarter) ∧
    (EncoderGives s x 0xF ↔ step + half + quarter ≤ -d)

/-- 40_codec.md R93: `RECON` returns what its rule says and writes no register (`ret` holds the result, log 3); the step
sizes and index adjustments it computes with are those of R91 and R92 (20_memory.md R41, R42), value by
value. The spec has the tables from general knowledge (93_implementation_defined.md G1, G2; log 26). -/
def Obligations.ReconstructionFollowsItsRule : Prop :=
  (∀ (p : Sample) (i : StepIndex) (c : Code) (s : State), i.toNat ≤ 88 →
    ∃ (p' : Sample) (i' : StepIndex) (delta : Nat),
      ReconRule p i c p' i' delta ∧ exec (.recon p i c) s = .next { s with ret := .recon p' i' delta }) ∧
  (List.range 89).map (fun i => romStep (BitVec.ofNat 8 i)) =
    [7, 8, 9, 10, 11, 12, 13, 14, 16, 17] ++ [19, 21, 23, 25, 28, 31, 34, 37, 41, 45] ++
    [50, 55, 60, 66, 73, 80, 88, 97, 107, 118] ++ [130, 143, 157, 173, 190, 209, 230, 253, 279, 307] ++
    [337, 371, 408, 449, 494, 544, 598, 658, 724, 796] ++
    [876, 963, 1060, 1166, 1282, 1411, 1552, 1707, 1878, 2066] ++
    [2272, 2499, 2749, 3024, 3327, 3660, 4026, 4428, 4871, 5358] ++
    [5894, 6484, 7132, 7845, 8630, 9493, 10442, 11487, 12635, 13899] ++
    [15289, 16818, 18500, 20350, 22385, 24623, 27086, 29794, 32767] ∧
  (List.range 16).map (fun c => romIdx (BitVec.ofNat 4 c)) =
    [-1, -1, -1, -1, 2, 4, 6, 8, -1, -1, -1, -1, 2, 4, 6, 8]

/-- 40_codec.md R94: `ENC_SAMPLE` quantises, then reconstructs with its own code, and changes `ENC` alone. -/
def Obligations.EncoderQuantisesAndReconstructs : Prop :=
  ∀ (x : Sample) (s : State), s.enc.stepIndex.toNat ≤ 88 →
    ∃ (c : Code) (p' : Sample) (i' : StepIndex) (delta : Nat),
      QuantiseRule s.enc.predictor (romStep s.enc.stepIndex) x c ∧
      ReconRule s.enc.predictor s.enc.stepIndex c p' i' delta ∧
      exec (.encSample x) s
        = .next { s with enc := { predictor := p', stepIndex := i' }, ret := .code c }

/-- 40_codec.md R95, 41_packetizer.md R142, 40_codec.md R112, R113: `DEC_SAMPLE` reconstructs and changes `DEC` alone; a payload
byte is decoded high code first, the low one against the state the high one left; the loads write their pair
alone. That a payload byte acts on `DEC` is log 14, that both its codes are decoded log 15, and where the results
stand log 3. -/
def Obligations.DecoderReconstructsAndLoads : Prop :=
  (∀ (c : Code) (s : State), s.dec.stepIndex.toNat ≤ 88 →
    ∃ (p' : Sample) (i' : StepIndex) (delta : Nat),
      ReconRule s.dec.predictor s.dec.stepIndex c p' i' delta ∧
      exec (.decSample c) s
        = .next { s with dec := { predictor := p', stepIndex := i' }, ret := .sample p' }) ∧
  (∀ (h l : Code) (s : State), s.dec.stepIndex.toNat ≤ 88 →
    ∃ (p1 p2 : Sample) (i1 i2 : StepIndex) (d1 d2 : Nat),
      ReconRule s.dec.predictor s.dec.stepIndex h p1 i1 d1 ∧ ReconRule p1 i1 l p2 i2 d2 ∧
      exec (.payloadByte h l) s
        = .next { s with dec := { predictor := p2, stepIndex := i2 }, ret := .samples [p1, p2] }) ∧
  (∀ (p : Sample) (i : StepIndex) (s : State), i.toNat ≤ 88 →
    exec (.encLoad p i) s = .next { s with enc := { predictor := p, stepIndex := i } } ∧
    exec (.decLoad p i) s = .next { s with dec := { predictor := p, stepIndex := i } })

/-- 40_codec.md R90, 20_memory.md R41, 93_implementation_defined.md U14: a step index above 88 has no meaning, and every
operation that would use one stops by name (log 20). -/
def Obligations.IllegalStepIndexStopsTheCodec : Prop :=
  (∀ s : State, 88 < s.dec.stepIndex.toNat →
    (∀ i ∈ [Instr.code0x0, .code0x1, .code0x2, .code0x3, .code0x4, .code0x5, .code0x6, .code0x7,
        .code0x8, .code0x9, .code0xA, .code0xB, .code0xC, .code0xD, .code0xE, .code0xF],
      exec i s = .refused .invalidCodecState) ∧
    (∀ c, exec (.decSample c) s = .refused .invalidCodecState) ∧
    (∀ h l, exec (.payloadByte h l) s = .refused .invalidCodecState)) ∧
  (∀ (s : State) (x : Sample), 88 < s.enc.stepIndex.toNat →
    exec (.encSample x) s = .refused .invalidCodecState) ∧
  (∀ (s : State) (p : Sample) (i : StepIndex) (c : Code), 88 < i.toNat →
    exec (.recon p i c) s = .refused .invalidCodecState ∧
    exec (.encLoad p i) s = .refused .invalidCodecState ∧
    exec (.decLoad p i) s = .refused .invalidCodecState)

/-- 40_codec.md R114: the encoder's code and new state depend on its state and the sample alone, the decoder's
sample and new state on its state and the code alone. -/
def Obligations.CodecDependsOnItsStateAlone : Prop :=
  (∀ (s u : State) (x : Sample), s.enc = u.enc → s.enc.stepIndex.toNat ≤ 88 →
    ∃ t v c, exec (.encSample x) s = .next t ∧ exec (.encSample x) u = .next v ∧
      t.ret = .code c ∧ v.ret = .code c ∧ t.enc = v.enc) ∧
  (∀ (s u : State) (c : Code), s.dec = u.dec → s.dec.stepIndex.toNat ≤ 88 →
    ∃ t v x, exec (.decSample c) s = .next t ∧ exec (.decSample c) u = .next v ∧
      t.ret = .sample x ∧ v.ret = .sample x ∧ t.dec = v.dec)

/-- 40_codec.md R115: any finite sequence of samples or of codes runs, and the codec state stays valid. -/
def Obligations.CodecStaysInRange : Prop :=
  (∀ (xs : List Sample) (s : State), s.enc.stepIndex.toNat ≤ 88 →
    ∃ t, runAll (xs.map .encSample) s = .next t ∧ t.enc.stepIndex.toNat ≤ 88 ∧
      -32768 ≤ t.enc.predictor.toInt ∧ t.enc.predictor.toInt ≤ 32767) ∧
  (∀ (cs : List Code) (s : State), s.dec.stepIndex.toNat ≤ 88 →
    ∃ t, runAll (cs.map .decSample) s = .next t ∧ t.dec.stepIndex.toNat ≤ 88 ∧
      -32768 ≤ t.dec.predictor.toInt ∧ t.dec.predictor.toInt ≤ 32767)

/-- 40_codec.md R116: a decoder that starts in the encoder's state and is fed its codes returns the encoder's
successive predictors and ends in the encoder's state. -/
def Obligations.DecoderKeepsStepWithEncoder : Prop :=
  ∀ (xs : List Sample) (s u : State), s.enc.stepIndex.toNat ≤ 88 → u.dec = s.enc →
    ∃ cs ps t v, EncRun s xs cs ps t ∧ DecRun u cs ps v ∧ v.dec = t.enc ∧
      t = { s with enc := t.enc, ret := t.ret } ∧ v = { u with dec := v.dec, ret := v.ret }

/-- 40_codec.md R117 and R118: what is left of the difference after the greedy subtractions is exactly the error
before clamping, up to the baseline eighth; it is bounded unless the magnitude is 7; and no intermediate value
leaves 18 signed bits. -/
def Obligations.ReconstructionErrorIsTheResidue : Prop :=
  ∀ (x : Sample) (s : State), s.enc.stepIndex.toNat ≤ 88 →
    ∃ (c : Code) (p' : Sample) (i' : StepIndex) (r : Nat) (q : Int),
      exec (.encSample x) s
        = .next { s with enc := { predictor := p', stepIndex := i' }, ret := .code c } ∧
      let step := romStep s.enc.stepIndex
      let d : Int := x.toInt - s.enc.predictor.toInt
      let delta := deltaRule step c
      |d| = ((r + (if c.getLsbD 2 then step else 0) + (if c.getLsbD 1 then step / 2 else 0)
        + (if c.getLsbD 0 then step / 4 else 0) : Nat) : Int) ∧
      q = (if c.getLsbD 3 then s.enc.predictor.toInt - delta else s.enc.predictor.toInt + delta) ∧
      p'.toInt = max (-32768) (min 32767 q) ∧
      x.toInt - q = (if 0 ≤ d then (r : Int) - (step / 8 : Nat) else (step / 8 : Nat) - (r : Int)) ∧
      (c.toNat % 8 ≠ 7 → r + 1 ≤ step - step / 2 - step / 4) ∧
      |d| ≤ 65535 ∧ -94204 ≤ q ∧ q ≤ 94203

/-! ### The packetizer -/

/-- 41_packetizer.md R132 and R133: `FRAME_PUSH` encodes as `ENC_SAMPLE` does, takes the snapshot before, when and
only when the frame is empty, and stores one code; a full frame takes no sample. That an illegal index is refused is
how the model renders 93_implementation_defined.md U14 (log 20). -/
def Obligations.FramePushSnapshotsAndStores : Prop :=
  ∀ (x : Sample) (s : State),
    (s.pkt.pos < s.stx.cfg.frameSamples → s.enc.stepIndex.toNat ≤ 88 →
      ∃ (c : Code) (k : Codec),
        exec (.encSample x) s = .next { s with enc := k, ret := .code c } ∧
        exec (.framePush x) s
          = .next { s with
              enc := k
              pkt := { s.pkt with
                hdrPredictor := if s.pkt.pos = 0 then s.enc.predictor else s.pkt.hdrPredictor
                hdrStepIndex := if s.pkt.pos = 0 then s.enc.stepIndex else s.pkt.hdrStepIndex
                pos := s.pkt.pos + 1
                payload := Mem.write s.pkt.payload (s.pkt.pos / 2)
                  (putNibble s.pkt.pos c (Mem.read s.pkt.payload (s.pkt.pos / 2))) } }) ∧
    (s.stx.cfg.frameSamples ≤ s.pkt.pos → exec (.framePush x) s = .fault (.notEnabled "FRAME_PUSH")) ∧
    (s.pkt.pos < s.stx.cfg.frameSamples → 88 < s.enc.stepIndex.toNat →
      exec (.framePush x) s = .refused .invalidCodecState)

/-- 20_memory.md R43, R47: the code of the sample at position `pos` is nibble number `pos` of the payload, every
other nibble is as before, and the buffer keeps its canonical form. -/
def Obligations.FramePushStoresOneNibble : Prop :=
  ∀ (x : Sample) (s t : State), MemCanonical s → exec (.framePush x) s = .next t →
    EncoderGives s x (getNibble s.pkt.pos (Mem.read t.pkt.payload (s.pkt.pos / 2))) ∧
    (∀ j, j ≠ s.pkt.pos →
      getNibble j (Mem.read t.pkt.payload (j / 2)) = getNibble j (Mem.read s.pkt.payload (j / 2))) ∧
    MemCanonical t ∧ t.file = s.file

/-- 41_packetizer.md R135 and R136: `FRAME_PAD` is `FRAME_PUSH(0)` until the frame is full; `FRAME_CLOSE` makes the
packet, advances the sequence number and clears the frame; each stops when its guard is false. -/
def Obligations.FramesArePaddedAndClosed : Prop :=
  ∀ s : State,
    (0 < s.pkt.pos → s.pkt.pos < s.stx.cfg.frameSamples → s.enc.stepIndex.toNat ≤ 88 →
      ∃ t, exec .framePad s = .next t ∧ t.pkt.pos = s.stx.cfg.frameSamples ∧
        runAll (List.replicate (s.stx.cfg.frameSamples - s.pkt.pos) (.framePush 0)) s = .next t) ∧
    (s.pkt.pos = 0 ∨ s.stx.cfg.frameSamples ≤ s.pkt.pos →
      exec .framePad s = .fault (.notEnabled "FRAME_PAD")) ∧
    (s.pkt.pos = s.stx.cfg.frameSamples →
      exec .frameClose s
        = .next { s with
            pkt := { s.pkt with
              out := some (headerBytes s.pkt.seq s.pkt.hdrPredictor s.pkt.hdrStepIndex
                ++ Mem.readBytes s.pkt.payload 0 ((s.stx.cfg.frameSamples + 1) / 2))
              seq := s.pkt.seq + 1
              pos := 0
              payload := [] } }) ∧
    (s.pkt.pos ≠ s.stx.cfg.frameSamples → exec .frameClose s = .fault (.notEnabled "FRAME_CLOSE"))

/-- 41_packetizer.md R138: `ENC_FRAME` is the pushes, the padding if samples are missing, and the closing; not enabled
inside a frame, without samples or with too many (log 31). -/
def Obligations.EncodingAFrameIsItsParts : Prop :=
  ∀ (xs : List Sample) (s : State),
    (s.pkt.pos = 0 → xs ≠ [] → xs.length ≤ s.stx.cfg.frameSamples → s.enc.stepIndex.toNat ≤ 88 →
      ∃ t, exec (.encFrame xs) s = .next t ∧
        runAll (xs.map .framePush
          ++ (if xs.length < s.stx.cfg.frameSamples then [.framePad] else []) ++ [.frameClose]) s
          = .next t) ∧
    (s.pkt.pos ≠ 0 ∨ xs = [] ∨ s.stx.cfg.frameSamples < xs.length →
      exec (.encFrame xs) s = .fault (.notEnabled "ENC_FRAME"))

/-- 41_packetizer.md R134 and R138: the packet of a frame holds the header of the state before the frame, then
`ceil(FRAME_SAMPLES / 2)` bytes with the codes in order, a last odd nibble 0; the pad nibble passes through no
codec. -/
def Obligations.PacketHoldsItsCodes : Prop :=
  ∀ (xs : List Sample) (s t : State), s.pkt.payload = [] → exec (.encFrame xs) s = .next t →
    ∃ cs ps u bytes,
      EncRun s (xs ++ List.replicate (s.stx.cfg.frameSamples - xs.length) 0) cs ps u ∧
      t.enc = u.enc ∧ t.pkt.seq = s.pkt.seq + 1 ∧
      t.pkt.out = some (headerBytes s.pkt.seq s.enc.predictor s.enc.stepIndex ++ bytes) ∧
      bytes.length = (s.stx.cfg.frameSamples + 1) / 2 ∧
      (∀ k, k < s.stx.cfg.frameSamples → cs[k]? = some (getNibble k (bytes.getD (k / 2) 0))) ∧
      (s.stx.cfg.frameSamples % 2 = 1 →
        getNibble s.stx.cfg.frameSamples (bytes.getD (s.stx.cfg.frameSamples / 2) 0) = 0)

/-- 41_packetizer.md R141: the packet of a frame, given alone to any decoder configured with the same frame length,
returns the encoder's successive predictors and leaves the decoder in the encoder's state after the frame. -/
def Obligations.PacketsDecodeAlone : Prop :=
  ∀ (xs : List Sample) (s t u : State) (b : List Byte) (rate ms : Nat),
    s.pkt.payload = [] → exec (.encFrame xs) s = .next t → t.pkt.out = some b →
    u.cfg.sampleRate = some rate → u.cfg.frameMs = some ms →
    rate * ms / 1000 = s.stx.cfg.frameSamples →
    ∃ cs ps v,
      EncRun s (xs ++ List.replicate (s.stx.cfg.frameSamples - xs.length) 0) cs ps v ∧
      exec (.pktDecode b) u
        = .next { u with dec := t.enc, outputs := .pcmOut s.pkt.seq ps :: u.outputs }

/-- 41_packetizer.md R140, 30_encoding.md R63, R74, R77: a datagram of the wrong length or with a bad step index is counted
and reported; any other is decoded from its header; an unwritten or zero frame length is refused. The report's
information word has 32 bits, so it carries the length modulo 2^32 (log 28). A packet row is read as the datagram
that carries its fields (log 14). -/
def Obligations.DatagramsAreDecodedOrRejected : Prop :=
  (∀ (b : List Byte) (s : State),
    (s.cfg.sampleRate = none ∨ s.cfg.frameMs = none →
      exec (.pktDecode b) s = .refused .decodeConfigUnwritten) ∧
    ∀ rate ms : Nat, s.cfg.sampleRate = some rate → s.cfg.frameMs = some ms →
      let n := rate * ms / 1000
      (n = 0 → exec (.pktDecode b) s = .refused .frameLengthZero) ∧
      (0 < n → b.length ≠ 7 + (n + 1) / 2 ∨ 88 < (b.getD 6 0).toNat →
        exec (.pktDecode b) s
          = .next { s with
              decRejects := s.decRejects + 1
              outputs := .event 8 (BitVec.ofNat 32 b.length) :: s.outputs }) ∧
      (0 < n → b.length = 7 + (n + 1) / 2 → (b.getD 6 0).toNat ≤ 88 →
        ∀ (seq : Seq) (p : Sample),
          seq.toNat = (b.getD 0 0).toNat * 2 ^ 24 + (b.getD 1 0).toNat * 2 ^ 16
            + (b.getD 2 0).toNat * 2 ^ 8 + (b.getD 3 0).toNat →
          p.toNat = (b.getD 4 0).toNat * 256 + (b.getD 5 0).toNat →
          let k : Codec := { predictor := p, stepIndex := b.getD 6 0 }
          let cs := (List.range n).map fun j => getNibble j (b.getD (7 + j / 2) 0)
          exec (.pktDecode b) s
            = .next { s with
                dec := codecRun k cs
                outputs := .pcmOut seq (decodedSamples k cs) :: s.outputs })) ∧
  (∀ (seq : Seq) (p : Sample) (i : StepIndex) (payload : List Byte) (s : State),
    exec (.packet seq p i payload) s
      = exec (.pktDecode (bytes32 seq ++ bytes16 p ++ [i] ++ payload)) s ∧
    ∀ rate ms : Nat, s.cfg.sampleRate = some rate → s.cfg.frameMs = some ms →
      let n := rate * ms / 1000
      0 < n → payload.length = (n + 1) / 2 → i.toNat ≤ 88 →
        let k : Codec := { predictor := p, stepIndex := i }
        let cs := (List.range n).map fun j => getNibble j (payload.getD (j / 2) 0)
        exec (.packet seq p i payload) s
          = .next { s with
              dec := codecRun k cs
              outputs := .pcmOut seq (decodedSamples k cs) :: s.outputs })

/-! ### The pacer and the time base -/

/-- 42_pacer.md R151, R152, R153, R154, R160, 70_reset_and_hazards.md R274: the anchor; the gate; time that only moves forward;
`PACE_MARK` counts the frame, then computes the target of the new count with one floor at the end, and a target
that does not fit the time base is refused (log 22). While the latched `PACE_DEN` is 0 the target is a free value
(log 9); what the gate returns stands in `ret` (log 3). -/
def Obligations.PacerAnchorsGatesAndMarks : Prop :=
  ∀ s : State,
    exec .paceAnchor s
      = .next { s with pacer := { startTime := s.now, framesSent := 0, targetTime := s.now } } ∧
    exec .paceGate s
      = .next { s with
          ret := .gate (decide (s.stx.mode = .live) || decide (s.pacer.targetTime ≤ s.now)) } ∧
    (∀ t : TimeWord,
      (s.now ≤ t.toNat → exec (.tick t) s = .next { s with now := t.toNat }) ∧
      (t.toNat < s.now → exec (.tick t) s = .refused .backwardTime)) ∧
    let target := s.pacer.startTime
      + (s.pacer.framesSent + 1) * s.stx.cfg.frameMs * s.stx.cfg.paceNum * 1000000
        / (s.stx.cfg.paceDen * 1000)
    (s.stx.cfg.paceDen ≠ 0 → target < 2 ^ 64 →
      exec .paceMark s
        = .next { s with pacer := { s.pacer with
            framesSent := s.pacer.framesSent + 1, targetTime := target } }) ∧
    (s.stx.cfg.paceDen ≠ 0 → 2 ^ 64 ≤ target → exec .paceMark s = .refused .timeOverflow) ∧
    (s.stx.cfg.paceDen = 0 →
      ∃ v, v < 2 ^ 64 ∧
        exec .paceMark s
          = .next { s with pacer := { s.pacer with
              framesSent := s.pacer.framesSent + 1, targetTime := v } })

/-- 42_pacer.md R152, R158: after an anchor and `k` marks the target is the anchor plus the floor of the whole product,
for the reference values the anchor plus 51000 ticks a frame: the schedule does not drift. -/
def Obligations.ScheduleDoesNotDrift : Prop :=
  (∀ (k : Nat) (s : State), s.stx.cfg.paceDen ≠ 0 →
    s.now + k * s.stx.cfg.frameMs * s.stx.cfg.paceNum * 1000000 / (s.stx.cfg.paceDen * 1000) < 2 ^ 64 →
    ∃ t, runAll (.paceAnchor :: List.replicate k .paceMark) s = .next t ∧
      t.pacer = { startTime := s.now, framesSent := k
                  targetTime := s.now + k * s.stx.cfg.frameMs * s.stx.cfg.paceNum * 1000000
                    / (s.stx.cfg.paceDen * 1000) }) ∧
  (∀ (k : Nat) (s : State),
    s.stx.cfg.frameMs = 60 → s.stx.cfg.paceNum = 17 → s.stx.cfg.paceDen = 20 →
    s.now + 51000 * k < 2 ^ 64 →
    ∃ t, runAll (.paceAnchor :: List.replicate k .paceMark) s = .next t ∧
      t.pacer = { startTime := s.now, framesSent := k, targetTime := s.now + 51000 * k })

/-- 42_pacer.md R158, the inequality: in file mode, with the pacer on schedule, a packet is sent no earlier than its
target, and the pacer is on schedule after it. -/
def Obligations.PacketsNeverLeaveEarly : Prop :=
  ∀ (r : SendResult) (s t : State), PacerOnSchedule s → s.stx.cfg.paceDen ≠ 0 → s.stx.mode = .file →
    exec (.sendFrame r) s = .next t →
    s.pacer.startTime
        + s.pacer.framesSent * s.stx.cfg.frameMs * s.stx.cfg.paceNum * 1000000
          / (s.stx.cfg.paceDen * 1000) ≤ s.now ∧
      t.now = s.now ∧ t.pacer.startTime = s.pacer.startTime ∧
      t.pacer.framesSent = s.pacer.framesSent + 1 ∧ PacerOnSchedule t

/-! ### The streaming transport -/

/-- 43_transport.md R167, 41_packetizer.md R131: `STREAM_START` is ignored while a session runs, refused while a register it
latches is unwritten or illegal, and otherwise starts a session. That an unwritten register is named before an
illegal one is log 19; that nothing is remembered of an earlier source log 35. -/
def Obligations.StreamStartLatchesAndAnchors : Prop :=
  ∀ (mode : Mode) (loop : Bool) (s : State),
    (s.stx.state ≠ .idle → exec (.streamStart mode loop) s = .next s) ∧
    (s.stx.state = .idle →
      (s.cfg.destAddr = none ∨ s.cfg.destPort = none ∨ s.cfg.sampleRate = none ∨ s.cfg.channels = none ∨
        s.cfg.frameMs = none ∨ s.cfg.paceNum = none ∨ s.cfg.paceDen = none →
        exec (.streamStart mode loop) s = .refused .streamConfigUnwritten) ∧
      ∀ addr port rate channels ms num den : Nat,
        s.cfg.destAddr = some addr → s.cfg.destPort = some port → s.cfg.sampleRate = some rate →
        s.cfg.channels = some channels → s.cfg.frameMs = some ms → s.cfg.paceNum = some num →
        s.cfg.paceDen = some den →
        (channels ≠ 1 ∨ rate = 0 ∨ ms = 0 ∨ den = 0 ∨ rate * ms / 1000 = 0 →
          exec (.streamStart mode loop) s = .refused .streamConfigIllegal) ∧
        (channels = 1 → rate ≠ 0 → ms ≠ 0 → den ≠ 0 → rate * ms / 1000 ≠ 0 →
          exec (.streamStart mode loop) s
            = .next { s with
                enc := { predictor := 0, stepIndex := 0 }
                pkt := { s.pkt with seq := 0, pos := 0, payload := [], out := none }
                pacer := { startTime := s.now, framesSent := 0, targetTime := s.now }
                playback := { pass := [], replay := none }
                stx := { s.stx with
                  state := .filling, mode := mode, loop := loop, eof := false
                  cfg := { frameSamples := rate * ms / 1000, frameMs := ms, paceNum := num
                           paceDen := den, destAddr := addr, destPort := port } } }))

/-- 43_transport.md R168: a sample taken is pushed, and a full frame is closed and waits; a port that is not ready takes
nothing. Refused are a file source that does not replay its first pass (70_reset_and_hazards.md R268,
93_implementation_defined.md U19; what is remembered of it, and that an overrun does not change it, is log 35), a
session state R34 excludes (log 21) and an illegal step index (log 20). -/
def Obligations.SamplesFillFrames : Prop :=
  ∀ (x : Sample) (s : State),
    (s.stx.state ≠ .filling ∨ s.stx.eof = true → exec (.pcmIn x) s = .fault .portNotReady) ∧
    (s.stx.state = .filling → s.stx.eof = false →
      (s.pkt.pos < s.stx.cfg.frameSamples → s.enc.stepIndex.toNat ≤ 88 →
        (∀ p, Supplies s.stx.mode x s.playback p →
          ∃ f, exec (.framePush x) s = .next f ∧
            (s.pkt.pos + 1 ≠ s.stx.cfg.frameSamples →
              exec (.pcmIn x) s = .next { f with playback := p }) ∧
            (s.pkt.pos + 1 = s.stx.cfg.frameSamples →
              ∃ g, exec .frameClose f = .next g ∧
                exec (.pcmIn x) s
                  = .next { g with playback := p, stx := { g.stx with state := .ready } })) ∧
        ((¬∃ p, Supplies s.stx.mode x s.playback p) →
          exec (.pcmIn x) s = .refused .sourceNotReplayed)) ∧
      (s.stx.cfg.frameSamples ≤ s.pkt.pos → exec (.pcmIn x) s = .refused .invalidSessionState) ∧
      (s.pkt.pos < s.stx.cfg.frameSamples → 88 < s.enc.stepIndex.toNat →
        exec (.pcmIn x) s = .refused .invalidCodecState))

/-- 43_transport.md R169: the end of the source pads and closes an open frame; on a frame boundary it ends the pass. Refused
are a file source that ends a later pass before the last sample of its first (70_reset_and_hazards.md R268,
93_implementation_defined.md U19; log 35), a session state R34 excludes (log 21) and an illegal step index
(log 20). -/
def Obligations.EndOfSourceClosesTheFrame : Prop :=
  ∀ s : State,
    (s.stx.state ≠ .filling ∨ s.stx.eof = true → exec .pcmEof s = .fault .portNotReady) ∧
    (s.stx.state = .filling → s.stx.eof = false → ¬MayEnd s.stx.mode s.playback →
      exec .pcmEof s = .refused .sourceNotReplayed) ∧
    (s.stx.state = .filling → s.stx.eof = false → MayEnd s.stx.mode s.playback →
      (s.pkt.pos = 0 →
        exec .pcmEof s
          = .next { s with stx := { s.stx with state := if s.stx.loop then .loopWait else .idle } }) ∧
      (0 < s.pkt.pos → s.pkt.pos < s.stx.cfg.frameSamples → s.enc.stepIndex.toNat ≤ 88 →
        ∃ f g, exec .framePad s = .next f ∧ exec .frameClose f = .next g ∧
          exec .pcmEof s = .next { g with stx := { g.stx with eof := true, state := .ready } }) ∧
      (0 < s.pkt.pos → s.stx.cfg.frameSamples ≤ s.pkt.pos →
        exec .pcmEof s = .refused .invalidSessionState) ∧
      (0 < s.pkt.pos → s.pkt.pos < s.stx.cfg.frameSamples → 88 < s.enc.stepIndex.toNat →
        exec .pcmEof s = .refused .invalidCodecState))

/-- 43_transport.md R170: a loop restart resets the encoder state and the anchor, asks for the source again, and is not
enabled elsewhere or behind the gate. A file source has its first pass to supply again (log 35). -/
def Obligations.LoopRestartResetsEncoderAndAnchor : Prop :=
  ∀ s : State,
    (s.stx.state = .loopWait → (s.stx.mode = .live ∨ s.pacer.targetTime ≤ s.now) →
      exec .loopRestart s
        = .next { s with
            enc := { predictor := 0, stepIndex := 0 }
            pacer := { startTime := s.now, framesSent := 0, targetTime := s.now }
            playback := if s.stx.mode = .live then s.playback
              else { s.playback with replay := some s.playback.pass }
            stx := { s.stx with state := .filling }
            outputs := .pcmRewind :: s.outputs }) ∧
    (s.stx.state ≠ .loopWait ∨ (s.stx.mode = .file ∧ s.now < s.pacer.targetTime) →
      exec .loopRestart s = .fault (.notEnabled "LOOP_RESTART"))

/-- 43_transport.md R171, 42_pacer.md R153, 60_exceptions.md R232, 70_reset_and_hazards.md R274: the waiting packet
is offered once, whatever the port answers; a failure is counted and reported with the packet's sequence number; the pacer counts the frame and sets
the target of the new count, refused when it does not fit the time base (log 22) and free while the latched `PACE_DEN` is
0 (log 9); the pass ends when `eof` is set. A session state R34 excludes is refused (log 21). -/
def Obligations.SendFrameOffersThePacketOnce : Prop :=
  ∀ (r : SendResult) (s : State),
    (s.stx.state ≠ .ready ∨ (s.stx.mode = .file ∧ s.now < s.pacer.targetTime) →
      exec (.sendFrame r) s = .fault (.notEnabled "SEND_FRAME")) ∧
    (s.stx.state = .ready → (s.stx.mode = .live ∨ s.pacer.targetTime ≤ s.now) →
      (s.pkt.out = none → exec (.sendFrame r) s = .refused .invalidSessionState) ∧
      ∀ b : List Byte, s.pkt.out = some b →
        let sent : Nat → State := fun v =>
          { s with
            pkt := { s.pkt with out := none }
            pacer := { s.pacer with framesSent := s.pacer.framesSent + 1, targetTime := v }
            stx := { s.stx with
              eof := false
              state := if s.stx.eof then (if s.stx.loop then .loopWait else .idle) else .filling
              txFailCount := s.stx.txFailCount + (if r = .fail then 1 else 0) }
            outputs := (if r = .fail then [.event 1 (s.pkt.seq - 1)] else [])
              ++ .dgram s.stx.cfg.destAddr s.stx.cfg.destPort b :: s.outputs }
        let target := s.pacer.startTime
          + (s.pacer.framesSent + 1) * s.stx.cfg.frameMs * s.stx.cfg.paceNum * 1000000
            / (s.stx.cfg.paceDen * 1000)
        (s.stx.cfg.paceDen ≠ 0 → target < 2 ^ 64 → exec (.sendFrame r) s = .next (sent target)) ∧
        (s.stx.cfg.paceDen ≠ 0 → 2 ^ 64 ≤ target → exec (.sendFrame r) s = .refused .timeOverflow) ∧
        (s.stx.cfg.paceDen = 0 → ∃ v, v < 2 ^ 64 ∧ exec (.sendFrame r) s = .next (sent v)))

/-- 43_transport.md R173: an overrun is counted and reported; in `IDLE` it is ignored; nothing else changes. -/
def Obligations.OverrunIsCountedOnly : Prop :=
  ∀ s : State,
    (s.stx.state ≠ .idle →
      exec .pcmOverrun s
        = .next { s with
            stx := { s.stx with overrunCount := s.stx.overrunCount + 1 }
            outputs := .event 2 0 :: s.outputs }) ∧
    (s.stx.state = .idle → exec .pcmOverrun s = .next s)

/-- 43_transport.md R174, 45_transfer.md R210, 60_exceptions.md R238: one command ends both sessions, the stream's event first. -/
def Obligations.CancelEndsBothSessions : Prop :=
  ∀ s : State,
    exec .cancel s
      = .next { s with
          pkt := if s.stx.state = .idle then s.pkt else { s.pkt with out := none, pos := 0, payload := [] }
          stx := if s.stx.state = .idle then s.stx else { s.stx with eof := false, state := .idle }
          xfer :=
            if s.xfer.state = .negotiating ∨ s.xfer.state = .sendingChunk ∨ s.xfer.state = .awaitingAck then
              { s.xfer with state := .abortedCancelled }
            else s.xfer
          outputs :=
            (if s.xfer.state = .negotiating ∨ s.xfer.state = .sendingChunk ∨ s.xfer.state = .awaitingAck then
              [.event 7 1] else [])
            ++ (if s.stx.state = .idle then [] else [.event 7 0]) ++ s.outputs }

/-- 43_transport.md R178, 30_encoding.md R72: a configuration write changes the named register alone and makes it written;
command code 0 changes nothing, whatever its argument. That a command word is five bytes, the code before the
argument, is the model's choice (log 12). -/
def Obligations.ConfigurationWritesOneRegister : Prop :=
  (∀ (name : CfgName) (v : Nat) (s : State),
    ∃ c, exec (.cfgWrite name v) s = .next { s with cfg := c } ∧ readCfg name c = some v ∧
      ∀ other, other ≠ name → readCfg other c = readCfg other s.cfg) ∧
  (∀ (arg : SizeWord) (s : State),
    decode { source := .cmd, bytes := 0 :: bytes32 arg } = .ok .cmdReserved ∧
    exec .cmdReserved s = .next s)

/-! ### The listener and the capacity negotiation -/

/-- 44_capacity.md R187, 30_encoding.md R78: a body that is `"FREE:" d1 ":" d2` with two readable numbers fills the reply cell;
any other is counted and reported; the `FREE` row is heard likewise (log 16). -/
def Obligations.ListenerStoresCapacityReplies : Prop :=
  ∀ s : State,
    (∀ (d1 d2 : List Byte) (f g : Nat), undec d1 = some f → undec d2 = some g →
      exec (.msgInFree ([0x46, 0x52, 0x45, 0x45, 0x3A] ++ d1 ++ [0x3A] ++ d2)) s
        = .next { s with lsn := { s.lsn with capReply := some (f, g) } }) ∧
    (∀ body : List Byte,
      (∀ (d1 d2 : List Byte), body = [0x46, 0x52, 0x45, 0x45, 0x3A] ++ d1 ++ [0x3A] ++ d2 →
        undec d1 = none ∨ undec d2 = none) →
      exec (.msgInFree body) s
        = .next { s with
            lsn := { s.lsn with malformedCount := s.lsn.malformedCount + 1 }
            outputs := .event 6 0 :: s.outputs }) ∧
    (∀ f g : Nat, f < 2 ^ 32 → g < 2 ^ 32 →
      exec (.free f g) s = .next { s with lsn := { s.lsn with capReply := some (f, g) } })

/-- 45_transfer.md R206, 30_encoding.md R78: a body that is `"ACK:" d` with a readable number fills the acknowledgment cell,
whatever the number; any other is counted and reported; the `ACK` row is heard likewise (log 16). -/
def Obligations.ListenerStoresAcknowledgments : Prop :=
  ∀ s : State,
    (∀ (d : List Byte) (n : Nat), undec d = some n →
      exec (.msgInAck ([0x41, 0x43, 0x4B, 0x3A] ++ d)) s
        = .next { s with lsn := { s.lsn with lastAck := some n } }) ∧
    (∀ body : List Byte,
      (∀ d : List Byte, body = [0x41, 0x43, 0x4B, 0x3A] ++ d → undec d = none) →
      exec (.msgInAck body) s
        = .next { s with
            lsn := { s.lsn with malformedCount := s.lsn.malformedCount + 1 }
            outputs := .event 6 1 :: s.outputs }) ∧
    (∀ n : Nat, n < 2 ^ 32 →
      exec (.ack n) s = .next { s with lsn := { s.lsn with lastAck := some n } })

/-- 45_transfer.md R215: malformed messages change no cell, neither advance nor abort the session, and leave its
deadline. -/
def Obligations.MalformedMessagesAreIgnored : Prop :=
  ∀ (s : State) (body : List Byte),
    (parseFree body = none →
      ∃ t, exec (.msgInFree body) s = .next t ∧ t.lsn.capReply = s.lsn.capReply ∧
        t.lsn.lastAck = s.lsn.lastAck ∧ t.xfer = s.xfer ∧ t.now = s.now) ∧
    (parseAck body = none →
      ∃ t, exec (.msgInAck body) s = .next t ∧ t.lsn.capReply = s.lsn.capReply ∧
        t.lsn.lastAck = s.lsn.lastAck ∧ t.xfer = s.xfer ∧ t.now = s.now)

/-- 44_capacity.md R188, R189, R190: the decision on the exact sum, the empty file's `START` and `END`, the timeout of the
wait; neither step is enabled otherwise. -/
def Obligations.CapacityIsDecidedOnce : Prop :=
  ∀ s : State,
    (∀ f g : Nat, s.xfer.state = .negotiating → s.lsn.capReply = some (f, g) →
      (s.xfer.fileSize ≤ f + g → s.xfer.total ≠ 0 →
        exec .capDecide s
          = .next { s with
              lsn := { s.lsn with capReply := none }
              xfer := { s.xfer with state := .sendingChunk }
              outputs := .msg .data (startBody s.xfer.fileSize) :: s.outputs }) ∧
      (s.xfer.fileSize ≤ f + g → s.xfer.total = 0 →
        exec .capDecide s
          = .next { s with
              lsn := { s.lsn with capReply := none }
              xfer := { s.xfer with state := .complete }
              outputs := .msg .data [0x45, 0x4E, 0x44] :: .msg .data (startBody s.xfer.fileSize)
                :: s.outputs }) ∧
      (f + g < s.xfer.fileSize →
        exec .capDecide s
          = .next { s with
              lsn := { s.lsn with capReply := none }
              xfer := { s.xfer with state := .abortedInsufficientSpace }
              outputs := .event 4 0 :: s.outputs })) ∧
    (s.xfer.state ≠ .negotiating ∨ s.lsn.capReply = none →
      exec .capDecide s = .fault (.notEnabled "CAP_DECIDE")) ∧
    (s.xfer.state = .negotiating → s.lsn.capReply = none → s.xfer.deadline ≤ s.now →
      exec .capTimeout s
        = .next { s with
            xfer := { s.xfer with state := .abortedNoReply }
            outputs := .event 3 0 :: s.outputs }) ∧
    (s.xfer.state ≠ .negotiating ∨ s.lsn.capReply ≠ none ∨ s.now < s.xfer.deadline →
      exec .capTimeout s = .fault (.notEnabled "CAP_TIMEOUT"))

/-- 44_capacity.md R192: the source's two examples. -/
def Obligations.CapacityExamples : Prop :=
  ∀ s : State, s.xfer.state = .negotiating → s.xfer.fileSize = 1000 → s.xfer.total ≠ 0 →
    (s.lsn.capReply = some (400, 700) →
      ∃ t, exec .capDecide s = .next t ∧ t.xfer.state = .sendingChunk ∧
        t.outputs
          = .msg .data [0x53, 0x54, 0x41, 0x52, 0x54, 0x3A, 0x31, 0x30, 0x30, 0x30] :: s.outputs) ∧
    (s.lsn.capReply = some (400, 0) →
      ∃ t, exec .capDecide s = .next t ∧ t.xfer.state = .abortedInsufficientSpace ∧
        t.outputs.filterMap dataBody = s.outputs.filterMap dataBody)

/-! ### The transfer -/

/-- 45_transfer.md R202, R203, 44_capacity.md R186, 70_reset_and_hazards.md R274: `XFER_START` is ignored in an active session,
refused on an unwritten or illegal register, a deadline beyond the time base or an index that would not fit, and
otherwise begins a session: cells cleared, the request sent once. Which of several reasons a refusal names is
log 19. -/
def Obligations.TransferStartRequestsCapacity : Prop :=
  ∀ (size : SizeWord) (s : State),
    (s.xfer.state = .negotiating ∨ s.xfer.state = .sendingChunk ∨ s.xfer.state = .awaitingAck →
      exec (.xferStart size) s = .next s) ∧
    (s.xfer.state ≠ .negotiating → s.xfer.state ≠ .sendingChunk → s.xfer.state ≠ .awaitingAck →
      (s.cfg.chunkSize = none ∨ s.cfg.ackTimeout = none ∨ s.cfg.capTimeout = none ∨ s.cfg.idx0 = none →
        exec (.xferStart size) s = .refused .xferConfigUnwritten) ∧
      ∀ c ackTimeout capTimeout z : Nat,
        s.cfg.chunkSize = some c → s.cfg.ackTimeout = some ackTimeout →
        s.cfg.capTimeout = some capTimeout → s.cfg.idx0 = some z →
        (c = 0 ∨ 1 < z → exec (.xferStart size) s = .refused .xferConfigIllegal) ∧
        (c ≠ 0 → z ≤ 1 → 2 ^ 64 ≤ s.now + capTimeout →
          exec (.xferStart size) s = .refused .timeOverflow) ∧
        (c ≠ 0 → z = 1 → s.now + capTimeout < 2 ^ 64 → (size.toNat + c - 1) / c = 2 ^ 32 - 1 →
          exec (.xferStart size) s = .refused .chunkIndexOverflow) ∧
        (c ≠ 0 → z ≤ 1 → s.now + capTimeout < 2 ^ 64 →
          ¬((size.toNat + c - 1) / c = 2 ^ 32 - 1 ∧ z = 1) →
          exec (.xferStart size) s
            = .next { s with
                lsn := { s.lsn with capReply := none, lastAck := none }
                xfer := { state := .negotiating, idx := z, total := (size.toNat + c - 1) / c
                          fileSize := size.toNat, deadline := s.now + capTimeout, lastAcked := none
                          cfg := { chunkSize := c, ackTimeout := ackTimeout, capTimeout := capTimeout
                                   idx0 := z } }
                outputs := .msg .req Config.reqToken :: s.outputs }))

/-- 45_transfer.md R205, 70_reset_and_hazards.md R274: the awaited chunk is published and its wait begins; not enabled
elsewhere; a deadline beyond the time base is refused, and so is a chunk outside the file (log 21). -/
def Obligations.ChunkIsPublished : Prop :=
  ∀ s : State,
    let z := s.xfer.cfg.idx0
    let off := (s.xfer.idx - z) * s.xfer.cfg.chunkSize
    (s.xfer.state ≠ .sendingChunk → exec .xferSendChunk s = .fault (.notEnabled "XFER_SEND_CHUNK")) ∧
    (s.xfer.state = .sendingChunk → 2 ^ 64 ≤ s.now + s.xfer.cfg.ackTimeout →
      exec .xferSendChunk s = .refused .timeOverflow) ∧
    (s.xfer.state = .sendingChunk → s.now + s.xfer.cfg.ackTimeout < 2 ^ 64 →
      s.xfer.idx < z ∨ s.xfer.fileSize < off → exec .xferSendChunk s = .refused .invalidSessionState) ∧
    (s.xfer.state = .sendingChunk → s.now + s.xfer.cfg.ackTimeout < 2 ^ 64 →
      z ≤ s.xfer.idx → off ≤ s.xfer.fileSize →
      exec .xferSendChunk s
        = .next { s with
            xfer := { s.xfer with
              deadline := s.now + s.xfer.cfg.ackTimeout, state := .awaitingAck }
            outputs := .msg .data
              ([0x43, 0x48, 0x55, 0x4E, 0x4B, 0x3A] ++ dec s.xfer.idx ++ [0x3A] ++ dec s.xfer.total
                ++ [0x3A] ++ Mem.readBytes s.file off (min s.xfer.cfg.chunkSize (s.xfer.fileSize - off)))
              :: s.outputs })

/-- 45_transfer.md R203, R214 (f): the chunks of a session, in order, are the file; all but the last have the chunk size,
the last between 1 byte and the chunk size. -/
def Obligations.ChunksAreTheFile : Prop :=
  ∀ s : State, 0 < s.xfer.cfg.chunkSize →
    s.xfer.total = chunkCount s.xfer.fileSize s.xfer.cfg.chunkSize →
    ((List.range s.xfer.total).map (chunkData s)).flatten = Mem.readBytes s.file 0 s.xfer.fileSize ∧
    (∀ j, j + 1 < s.xfer.total → (chunkData s j).length = s.xfer.cfg.chunkSize) ∧
    (∀ j, j + 1 = s.xfer.total →
      1 ≤ (chunkData s j).length ∧ (chunkData s j).length ≤ s.xfer.cfg.chunkSize ∧
      (chunkData s j).length = s.xfer.fileSize - j * s.xfer.cfg.chunkSize)

/-- 45_transfer.md R207, R208: exactly the awaited index advances by one or ends the session with `END`; at the deadline,
without it, the session is aborted with its index reported; neither step is enabled otherwise. -/
def Obligations.AcknowledgmentAdvancesOrTimesOut : Prop :=
  ∀ s : State,
    (s.xfer.state = .awaitingAck → s.lsn.lastAck = some s.xfer.idx →
      (s.xfer.idx + 1 = s.xfer.cfg.idx0 + s.xfer.total →
        exec .xferAckMatch s
          = .next { s with
              xfer := { s.xfer with lastAcked := some s.xfer.idx, state := .complete }
              outputs := .msg .data [0x45, 0x4E, 0x44] :: s.outputs }) ∧
      (s.xfer.idx + 1 ≠ s.xfer.cfg.idx0 + s.xfer.total → s.xfer.idx + 1 < 2 ^ 32 →
        exec .xferAckMatch s
          = .next { s with
              xfer := { s.xfer with
                lastAcked := some s.xfer.idx, idx := s.xfer.idx + 1, state := .sendingChunk } }) ∧
      (s.xfer.idx + 1 ≠ s.xfer.cfg.idx0 + s.xfer.total → 2 ^ 32 ≤ s.xfer.idx + 1 →
        exec .xferAckMatch s = .refused .chunkIndexOverflow)) ∧
    (s.xfer.state ≠ .awaitingAck ∨ s.lsn.lastAck ≠ some s.xfer.idx →
      exec .xferAckMatch s = .fault (.notEnabled "XFER_ACK_MATCH")) ∧
    (s.xfer.state = .awaitingAck → s.lsn.lastAck ≠ some s.xfer.idx → s.xfer.deadline ≤ s.now →
      exec .xferAckTimeout s
        = .next { s with
            xfer := { s.xfer with state := .abortedTimeout }
            outputs := .event 5 (BitVec.ofNat 32 s.xfer.idx) :: s.outputs }) ∧
    (s.xfer.state ≠ .awaitingAck ∨ s.lsn.lastAck = some s.xfer.idx ∨ s.now < s.xfer.deadline →
      exec .xferAckTimeout s = .fault (.notEnabled "XFER_ACK_TIMEOUT"))

/-- 30_encoding.md R66, R68, R69, R70: the rows of the messages the block sends emit them and change nothing else
(log 16). -/
def Obligations.OutboundMessagesAreEmitted : Prop :=
  ∀ s : State,
    exec .req s = .next { s with outputs := .msg .req Config.reqToken :: s.outputs } ∧
    (∀ n, exec (.start n) s
      = .next { s with
          outputs := .msg .data ([0x53, 0x54, 0x41, 0x52, 0x54, 0x3A] ++ dec n) :: s.outputs }) ∧
    (∀ i n data, exec (.chunk i n data) s
      = .next { s with
          outputs := .msg .data
            ([0x43, 0x48, 0x55, 0x4E, 0x4B, 0x3A] ++ dec i ++ [0x3A] ++ dec n ++ [0x3A] ++ data)
            :: s.outputs }) ∧
    exec .endMsg s = .next { s with outputs := .msg .data [0x45, 0x4E, 0x44] :: s.outputs }

/-! ### Events and reset -/

/-- 60_exceptions.md R231, R232 to R239, R244: each event taken writes its counter or the terminal state of the session
it is fatal to, reports its code and information word, and changes nothing else; where no such session is in the
state R213 names, only the report is made (log 17). -/
def Obligations.EventsReportAndEndSessions : Prop :=
  ∀ (info : SizeWord) (s : State),
    exec (.eventTxSendFail info) s
      = .next { s with stx := { s.stx with txFailCount := s.stx.txFailCount + 1 }
                       outputs := .event 1 info :: s.outputs } ∧
    exec (.eventCaptureOverrun info) s
      = .next { s with stx := { s.stx with overrunCount := s.stx.overrunCount + 1 }
                       outputs := .event 2 info :: s.outputs } ∧
    exec (.eventCapNoReply info) s
      = .next { s with
          xfer := if s.xfer.state = .negotiating then { s.xfer with state := .abortedNoReply } else s.xfer
          outputs := .event 3 info :: s.outputs } ∧
    exec (.eventCapInsufficient info) s
      = .next { s with
          xfer := if s.xfer.state = .negotiating then
            { s.xfer with state := .abortedInsufficientSpace } else s.xfer
          outputs := .event 4 info :: s.outputs } ∧
    exec (.eventAckTimeout info) s
      = .next { s with
          xfer := if s.xfer.state = .awaitingAck then { s.xfer with state := .abortedTimeout } else s.xfer
          outputs := .event 5 info :: s.outputs } ∧
    exec (.eventMalformedReply info) s
      = .next { s with lsn := { s.lsn with malformedCount := s.lsn.malformedCount + 1 }
                       outputs := .event 6 info :: s.outputs } ∧
    exec (.eventCancelled info) s
      = .next { s with
          pkt := if info = 0 ∧ s.stx.state ≠ .idle then
            { s.pkt with out := none, pos := 0, payload := [] } else s.pkt
          stx := if info = 0 ∧ s.stx.state ≠ .idle then
            { s.stx with eof := false, state := .idle } else s.stx
          xfer := if info = 1 ∧ xferActive s.xfer.state = true then
            { s.xfer with state := .abortedCancelled } else s.xfer
          outputs := .event 7 info :: s.outputs } ∧
    exec (.eventDecReject info) s
      = .next { s with decRejects := s.decRejects + 1, outputs := .event 8 info :: s.outputs }

/-- 70_reset_and_hazards.md R260, R261, R262: reset gives every register its reset value, unwrites the configuration, emits
nothing, and leaves the time, the file and what was emitted before (log 29). -/
def Obligations.ResetGivesResetValues : Prop :=
  ∀ s : State,
    ∃ t, exec .reset s = .next t ∧ ResetValues t ∧ t.now = s.now ∧ t.file = s.file ∧
      t.outputs = s.outputs

/-- 10_state.md R36, R34: the reset state has the spec's reset values and meets every invariant stated below. -/
def Obligations.ResetStateMeetsTheInvariants : Prop :=
  ResetValues State.reset ∧ RangeInv State.reset ∧ PacerOnSchedule State.reset ∧
  SessionInv State.reset ∧ TrafficInv State.reset

/-! ### The step -/

/-- An issued transaction that decodes is run, with nothing around it but its consumption; one on a topic the block
does not hear is dropped (30_encoding.md R78); any other is no operation of the block (R60) and refused (log 36). A word
of the opcode table is issued this way (log 1). -/
def Obligations.StepRunsTheIssuedOperation : Prop :=
  (∀ (s : State) (t : Transaction) (rest : List Transaction), s.script = t :: rest →
    (∀ i, decode t = .ok i → step s = exec i { s with script := rest }) ∧
    (decode t = .error .otherTopic → step s = .next { s with script := rest }) ∧
    (∀ r, decode t = .error r → r ≠ .otherTopic → step s = .refused (.undecodable r))) ∧
  (∀ (s : State) (nbits w : Nat) (i : Instr), decodeTableWord nbits w = some i →
    step (s.withFetchWord nbits w) = exec i s)

/-- 60_exceptions.md R242, classes 1 to 4: the first arrival of the highest class offered now is taken before anything
else; with the class of every arrival and the operation it stands for (30_encoding.md R72, R78). What is offered now is
what stands before the next `TICK` (log 24). An acknowledgment that matches is acted on before the next message of
class 4 is heard, so no match is lost (45_transfer.md R206 and the last sentence of R242; log 23). -/
def Obligations.UrgentArrivalsComeFirst : Prop :=
  (∀ (s : State) (k : Nat) (a : Arrival), s.script = [] → 1 ≤ k → k ≤ 4 →
    (k = 4 → ackMatchEnabled s = false) → (∀ b ∈ offeredNow s, k ≤ arrivalClass b) →
    (offeredNow s).find? (fun b => arrivalClass b == k) = some a →
    step s = runArrival a { s with inbox := s.inbox.eraseP fun b => arrivalClass b == k }) ∧
  (∀ s : State, s.script = [] → (∀ b ∈ offeredNow s, 4 ≤ arrivalClass b) → ackMatchEnabled s = true →
    step s = exec .xferAckMatch s) ∧
  (arrivalClass .resetIn = 1 ∧ arrivalInstr .resetIn = some .reset) ∧
  (∀ arg, arrivalClass (.cmd 3 arg) = 2 ∧ arrivalInstr (.cmd 3 arg) = some .cancel) ∧
  (∀ code arg, code ≠ 3 → arrivalClass (.cmd code arg) = 3) ∧
  (∀ arg, arrivalInstr (.cmd 0 arg) = some .cmdReserved ∧
    arrivalInstr (.cmd 1 arg)
      = some (.streamStart (if arg.getLsbD 0 then .live else .file) (arg.getLsbD 1)) ∧
    arrivalInstr (.cmd 2 arg) = some (.xferStart arg)) ∧
  (∀ name v, arrivalClass (.cfg name v) = 3 ∧ arrivalInstr (.cfg name v) = some (.cfgWrite name v)) ∧
  (∀ topic body, arrivalClass (.msg topic body) = 4 ∧
    arrivalInstr (.msg topic body)
      = if topic = .resp then some (.msgInFree body) else if topic = .ack then some (.msgInAck body) else none) ∧
  (∀ x, arrivalClass (.pcm x) = 6 ∧ arrivalInstr (.pcm x) = some (.pcmIn x)) ∧
  (arrivalClass .pcmEof = 6 ∧ arrivalInstr .pcmEof = some .pcmEof) ∧
  (arrivalClass .pcmOverrun = 6 ∧ arrivalInstr .pcmOverrun = some .pcmOverrun) ∧
  (∀ b, arrivalClass (.dgram b) = 6 ∧ arrivalInstr (.dgram b) = some (.pktDecode b)) ∧
  (∀ w, arrivalClass (.tick w) = 7 ∧ arrivalInstr (.tick w) = some (.tick w))

/-- 60_exceptions.md R242, classes 5 to 7: with nothing urgent offered, an enabled internal step is taken; with none
enabled, the sample or datagram at the head, if the port is ready for it; then time moves. The transfer side's
step before the streaming side's is log 25, the held sample log 24, the port's answer to a send log 4, the waiting
log 30. -/
def Obligations.InternalStepsThenDataThenTime : Prop :=
  ∀ s : State, s.script = [] → (∀ b ∈ offeredNow s, 5 ≤ arrivalClass b) →
    (ackMatchEnabled s = true → step s = exec .xferAckMatch s) ∧
    (ackTimeoutEnabled s = true → step s = exec .xferAckTimeout s) ∧
    (capDecideEnabled s = true → step s = exec .capDecide s) ∧
    (capTimeoutEnabled s = true → step s = exec .capTimeout s) ∧
    (sendChunkEnabled s = true → step s = exec .xferSendChunk s) ∧
    (transferStep s = none → sendFrameEnabled s = true →
      ∃ r, step s = exec (.sendFrame r) { s with sends := s.sends + 1 }) ∧
    (transferStep s = none → loopRestartEnabled s = true → step s = exec .loopRestart s) ∧
    (internalEnabled s = false →
      (∀ a rest, s.inbox = a :: rest → arrivalClass a = 6 →
        (sampleReady s = true ∨ a = .pcmOverrun ∨ ∃ b, a = .dgram b) →
        step s = runArrival a { s with inbox := rest }) ∧
      (∀ t rest, s.inbox = .tick t :: rest → step s = exec (.tick t) { s with inbox := rest }) ∧
      (∀ x t rest, s.inbox = .pcm x :: .tick t :: rest → sampleReady s = false →
        step s = exec (.tick t) { s with inbox := .pcm x :: rest }) ∧
      (s.inbox = [] → step s = .next s))

/-- 60_exceptions.md R242, urgency: while an internal step is enabled, time does not move. -/
def Obligations.EnabledStepsHoldTime : Prop :=
  ∀ s t : State, s.script = [] → internalEnabled s = true → step s = .next t → t.now = s.now

/-! ### Invariants -/

/-- 10_state.md R34, first part, with R21, R24, R25, R27, R28, R30: from every state in which the registers are in their
ranges and the memories canonical, every step keeps them so. -/
def Obligations.StepKeepsRangesAndCanonicalMemory : Prop :=
  ∀ s t : State, RangeInv s → step s = .next t → RangeInv t

/-- 10_state.md R21: every step keeps the target time on the schedule of the anchor and the count. -/
def Obligations.StepKeepsThePacerOnSchedule : Prop :=
  ∀ s t : State, PacerOnSchedule s → step s = .next t → PacerOnSchedule t

/-- 10_state.md R34: every step of the hardware keeps the sessions' invariants, whatever the environment offers. The
premise that nothing is issued past the priority order is log 34. -/
def Obligations.HardwareStepKeepsTheSessions : Prop :=
  ∀ s t : State, SessionInv s → step s = .next t → SessionInv t

/-- 00_scope.md R12, 40_codec.md R90, 20_memory.md R44: from the states the hardware can be in, no step faults, and a step is
refused only for a configuration, a time or an index the spec itself refuses, or for a file source that does not
replay its pass (93_implementation_defined.md U17, U18, U19). -/
def Obligations.HardwareStepsOnlyRefuseByRule : Prop :=
  ∀ s : State, SessionInv s →
    (∃ t, step s = .next t) ∨ (∃ r, step s = .refused r ∧ refusedByRule r = true)

/-- 45_transfer.md R214 (a), (c), (d), (e): what a session has sent on `T_DATA` is `START` and the chunks in order, as far
as its state says, with `END` exactly at the end. -/
def Obligations.HardwareStepKeepsTheTraffic : Prop :=
  ∀ s t : State, SessionInv s → TrafficInv s → step s = .next t → TrafficInv t

/-! ### Transition tables and separation -/

/-- 43_transport.md R175: no step changes `STX.state` but by a row of the table, under its condition, with exactly the
row's output and the event reports of 60_exceptions.md R232 and R238. -/
def Obligations.StreamTransitionsAreListed : Prop :=
  ∀ (i : Instr) (s t : State), i.isStep = true → exec i s = .next t →
    t.stx.state = s.stx.state ∨ StreamEdge i s t

/-- 45_transfer.md R213, R214 (b), (g): no step changes `XFER.state` or `XFER.idx` but by a row of the table, under its
condition, with exactly the row's output and the event reports of 60_exceptions.md R234 to R236 and R238. -/
def Obligations.TransferTransitionsAreListed : Prop :=
  ∀ (i : Instr) (s t : State), i.isStep = true → exec i s = .next t →
    (t.xfer.state = s.xfer.state ∧ t.xfer.idx = s.xfer.idx) ∨ TransferEdge i s t

/-- 45_transfer.md R216: a step of one side gives the same result and the same outputs in two states that agree on what
that side reads, and leaves the other side's registers alone. -/
def Obligations.SidesDoNotSeeEachOther : Prop :=
  (∀ (i : Instr) (s u t : State), i.isStreaming = true → sameStreamView s u → exec i s = .next t →
    t.lsn = s.lsn ∧ t.xfer = s.xfer ∧ t.file = s.file ∧
    ∃ v new, exec i u = .next v ∧ sameStreamView t v ∧ t.outputs = new ++ s.outputs ∧
      v.outputs = new ++ u.outputs) ∧
  (∀ (i : Instr) (s u t : State), i.isTransfer = true → sameTransferView s u → exec i s = .next t →
    t.enc = s.enc ∧ t.pkt = s.pkt ∧ t.pacer = s.pacer ∧ t.stx = s.stx ∧ t.playback = s.playback ∧
    ∃ v new, exec i u = .next v ∧ sameTransferView t v ∧ t.outputs = new ++ s.outputs ∧
      v.outputs = new ++ u.outputs)

/-- 60_exceptions.md R242, 45_transfer.md R216: a step of the streaming side and one of the transfer side, both possible, may
be taken in either order, with the same state after and the same outputs but for their interleaving. -/
def Obligations.SidesCommute : Prop :=
  ∀ (i j : Instr) (s a b : State), i.isStreaming = true → j.isTransfer = true →
    exec i s = .next a → exec j s = .next b →
    ∃ c d, exec j a = .next c ∧ exec i b = .next d ∧ c = { d with outputs := c.outputs } ∧
      c.outputs.Perm d.outputs

/-- 10_state.md R31, 20_memory.md R58: an operation that neither reads, latches nor writes the configuration registers does
the same under any of them, so a write reaches no running session. `PKT_DECODE` reads two of them
(41_packetizer.md R140), and so does the packet row (log 14). -/
def Obligations.RunningSessionsIgnoreConfiguration : Prop :=
  ∀ (i : Instr) (s : State) (c : CfgRegs), i.touchesConfig = false →
    exec i (s.withCfg c) = mapNext (fun t => t.withCfg c) (exec i s)

/-- 10_state.md R13 to R31, 20_memory.md R44: every register, cell and counter is changed only by the operations its rule
names as writers, by the ones that contain them, and by `RESET`; the file is never written; what was emitted stays
emitted. The rows of the codes act on `DEC` (log 14), those of the events on their counter and session (log 17), those
of the inbound messages on the listener (log 16). The model's own fields are the last five clauses (logs 1, 3, 4, 35). -/
def Obligations.OnlyOwnersWrite : Prop :=
  ∀ (i : Instr) (s t : State), exec i s = .next t →
    t.file = s.file ∧ (∃ new, t.outputs = new ++ s.outputs) ∧
    (t.now ≠ s.now → ∃ w, i = .tick w) ∧
    (t.cfg ≠ s.cfg → i = .reset ∨ ∃ name v, i = .cfgWrite name v) ∧
    (t.enc ≠ s.enc → i.writesEnc = true) ∧
    (t.dec ≠ s.dec → i.writesDec = true) ∧
    (t.decRejects ≠ s.decRejects → i.writesRejects = true) ∧
    (t.pkt.seq ≠ s.pkt.seq → i.writesSeq = true) ∧
    (t.pkt.hdrPredictor ≠ s.pkt.hdrPredictor ∨ t.pkt.hdrStepIndex ≠ s.pkt.hdrStepIndex →
      i.writesSnapshot = true) ∧
    (t.pkt.pos ≠ s.pkt.pos ∨ t.pkt.payload ≠ s.pkt.payload → i.writesFrame = true) ∧
    (t.pkt.out ≠ s.pkt.out → i.writesOut = true) ∧
    (t.pacer ≠ s.pacer → i.writesPacer = true) ∧
    (t.stx.state ≠ s.stx.state → i.writesStxState = true) ∧
    (t.stx.eof ≠ s.stx.eof → i.writesEof = true) ∧
    (t.stx.mode ≠ s.stx.mode ∨ t.stx.loop ≠ s.stx.loop ∨ t.stx.cfg ≠ s.stx.cfg →
      i.writesStxRecord = true) ∧
    (t.stx.txFailCount ≠ s.stx.txFailCount → i.writesTxFails = true) ∧
    (t.stx.overrunCount ≠ s.stx.overrunCount → i.writesOverruns = true) ∧
    (t.lsn.capReply ≠ s.lsn.capReply → i.writesReplyCell = true) ∧
    (t.lsn.lastAck ≠ s.lsn.lastAck → i.writesAckCell = true) ∧
    (t.lsn.malformedCount ≠ s.lsn.malformedCount → i.writesMalformed = true) ∧
    (t.xfer.state ≠ s.xfer.state → i.writesXferState = true) ∧
    (t.xfer.idx ≠ s.xfer.idx ∨ t.xfer.lastAcked ≠ s.xfer.lastAcked → i.writesIdx = true) ∧
    (t.xfer.total ≠ s.xfer.total ∨ t.xfer.fileSize ≠ s.xfer.fileSize ∨ t.xfer.cfg ≠ s.xfer.cfg →
      i.writesXferRecord = true) ∧
    (t.xfer.deadline ≠ s.xfer.deadline → i.writesDeadline = true) ∧
    (t.ret ≠ s.ret → i.writesRet = true) ∧ (t.playback ≠ s.playback → i.writesPlayback = true) ∧
    t.sends = s.sends ∧ t.script = s.script ∧ t.inbox = s.inbox
end

