-- ==== Sys2Proof/Laws/Codec.lean ====
section
/-! SUPPORT. The laws of the codec: what one reconstruction gives, the ranges it keeps, and runs of codes. -/

namespace Sys2Proof.Machine

theorem clamp_eq {lo hi : Int} (h : lo ≤ hi) (v : Int) : clamp v lo hi = max lo (min hi v) := by
  unfold clamp
  split
  · omega
  · split <;> omega

theorem clamp_range {lo hi : Int} (h : lo ≤ hi) (v : Int) : lo ≤ clamp v lo hi ∧ clamp v lo hi ≤ hi := by
  rw [clamp_eq h]
  omega

/-- The new predictor, as an integer: nothing wraps (40_codec.md R118). -/
theorem recon_predictor_toInt (p : Sample) (i : StepIndex) (c : Code) :
    (recon p i c).predictor.toInt =
      clamp (if c.getLsbD 3 then p.toInt - reconDelta (romStep i) c else p.toInt + reconDelta (romStep i) c)
        (-32768) 32767 := by
  have h := clamp_range (lo := -32768) (hi := 32767) (by decide)
    (if c.getLsbD 3 then p.toInt - reconDelta (romStep i) c else p.toInt + reconDelta (romStep i) c)
  simp only [recon, BitVec.toInt_ofInt]
  rw [Int.bmod_eq_of_le] <;> omega

/-- The new step index, as a number. -/
theorem recon_stepIndex_toNat (p : Sample) (i : StepIndex) (c : Code) :
    ((recon p i c).stepIndex.toNat : Int) = clamp ((i.toNat : Int) + romIdx c) 0 88 := by
  have h := clamp_range (lo := 0) (hi := 88) (by decide) ((i.toNat : Int) + romIdx c)
  simp only [recon, BitVec.toNat_ofInt]
  omega

/-- A reconstruction leaves the step index in range, whatever it was (40_codec.md R115). -/
theorem recon_stepIndex_le (p : Sample) (i : StepIndex) (c : Code) :
    (recon p i c).stepIndex.toNat ≤ 88 := by
  have h := clamp_range (lo := 0) (hi := 88) (by decide) ((i.toNat : Int) + romIdx c)
  have h' := recon_stepIndex_toNat p i c
  omega

theorem codecAfter_stepIndex_le (k : Codec) (c : Code) : (codecAfter k c).stepIndex.toNat ≤ 88 :=
  recon_stepIndex_le k.predictor k.stepIndex c

/-- The index adjustments (40_codec.md R92). -/
theorem romIdx_range (c : Code) : -1 ≤ romIdx c ∧ romIdx c ≤ 8 := by
  revert c
  decide

/-- The step sizes of the legal indices (40_codec.md R91). -/
theorem romStep_range : ∀ i : StepIndex, i.toNat ≤ 88 → 7 ≤ romStep i ∧ romStep i ≤ 32767 := by
  decide +kernel

theorem codecValid_iff (k : Codec) : codecValid k = true ↔ k.stepIndex.toNat ≤ 88 := by
  simp [codecValid, StepIndex.legal]

theorem codecRun_append (k : Codec) (as bs : List Code) :
    codecRun k (as ++ bs) = codecRun (codecRun k as) bs := by
  induction as generalizing k with
  | nil => rfl
  | cons a as ih => exact ih _

theorem codecStates_append (k : Codec) (as bs : List Code) :
    codecStates k (as ++ bs) = codecStates k as ++ codecStates (codecRun k as) bs := by
  induction as generalizing k with
  | nil => rfl
  | cons a as ih => simp [codecStates, codecRun, ih]

@[simp] theorem length_codecStates (k : Codec) (cs : List Code) : (codecStates k cs).length = cs.length := by
  induction cs generalizing k with
  | nil => rfl
  | cons c cs ih => simp [codecStates, ih]

/-- A run of codes keeps a legal step index. -/
theorem codecRun_stepIndex_le (k : Codec) (cs : List Code) (h : k.stepIndex.toNat ≤ 88) :
    (codecRun k cs).stepIndex.toNat ≤ 88 := by
  induction cs generalizing k with
  | nil => exact h
  | cons c cs ih => exact ih _ (codecAfter_stepIndex_le k c)

/-- A nibble written is read back. -/
theorem getNibble_putNibble_same (k : Nat) (c : Code) (b : Byte) : getNibble k (putNibble k c b) = c := by
  unfold getNibble putNibble
  split <;> ext i hi <;> simp [BitVec.getElem_extractLsb'] <;> grind

/-- The other nibble of the byte is kept. -/
theorem getNibble_putNibble_other {j k : Nat} (h : j % 2 ≠ k % 2) (c : Code) (b : Byte) :
    getNibble j (putNibble k c b) = getNibble j b := by
  unfold getNibble putNibble
  split <;> split <;> first | omega | skip
  all_goals
    ext i hi
    simp [BitVec.getElem_extractLsb']
    grind

end Sys2Proof.Machine
end

