-- ==== Sys2Proof/Laws/Memory.lean ====
section
/-! SUPPORT. The laws of byte memory: a read after a write, and the canonical form, which every memory
operation keeps. -/

namespace Sys2Proof.Machine

theorem Mem.wf_cons {a : Nat} {b : Byte} {m : Mem} :
    Mem.wf ((a, b) :: m) = true ↔
      b ≠ Mem.unlisted ∧ (∀ c ∈ m, a < c.1) ∧ Mem.wf m = true := by
  simp [Mem.wf, and_assoc]

/-- An address below every listed one reads as an unlisted byte. -/
theorem Mem.read_below {m : Mem} {x : Nat} (h : ∀ c ∈ m, x < c.1) : Mem.read m x = Mem.unlisted := by
  induction m with
  | nil => rfl
  | cons c m ih =>
    obtain ⟨a, b⟩ := c
    have h1 : x < a := h (a, b) (by simp)
    simp [Mem.read, Nat.ne_of_lt h1, ih fun c hc => h c (by simp [hc])]

/-- What a byte put at the front reads as. -/
theorem Mem.read_consByte {m : Mem} {a : Nat} {v : Byte} (h : ∀ c ∈ m, a < c.1) (x : Nat) :
    Mem.read (Mem.consByte a v m) x = if x = a then v else Mem.read m x := by
  unfold Mem.consByte
  split
  · rename_i hv
    split
    · rename_i hx
      rw [hx, hv, Mem.read_below h]
    · rfl
  · rfl

theorem Mem.wf_consByte {m : Mem} {a : Nat} {v : Byte} (h : ∀ c ∈ m, a < c.1) (hm : Mem.wf m = true) :
    Mem.wf (Mem.consByte a v m) = true := by
  unfold Mem.consByte
  split
  · exact hm
  · exact Mem.wf_cons.2 ⟨‹_›, h, hm⟩

theorem Mem.mem_consByte {m : Mem} {a : Nat} {v : Byte} {c : Host.Cell} (h : c ∈ Mem.consByte a v m) :
    c.1 = a ∨ c ∈ m := by
  unfold Mem.consByte at h
  split at h
  · exact .inr h
  · rcases List.mem_cons.1 h with rfl | h
    · exact .inl rfl
    · exact .inr h

theorem Mem.mem_write {m : Mem} {x : Nat} {v : Byte} {c : Host.Cell} (h : c ∈ Mem.write m x v) :
    c.1 = x ∨ c ∈ m := by
  induction m with
  | nil => exact (Mem.mem_consByte h).imp id (by simp)
  | cons d m ih =>
    obtain ⟨a, b⟩ := d
    simp only [Mem.write] at h
    split at h
    · exact Mem.mem_consByte h
    · split at h
      · exact (Mem.mem_consByte h).imp id fun h => by simp [h]
      · rcases List.mem_cons.1 h with rfl | h
        · exact .inr (by simp)
        · exact (ih h).imp id fun h => by simp [h]

/-- The canonical form is kept by a write. -/
theorem Mem.wf_write {m : Mem} (hm : Mem.wf m = true) (x : Nat) (v : Byte) :
    Mem.wf (Mem.write m x v) = true := by
  induction m with
  | nil => exact Mem.wf_consByte (by simp) rfl
  | cons c m ih =>
    obtain ⟨a, b⟩ := c
    obtain ⟨hb, ha, hm'⟩ := Mem.wf_cons.1 hm
    simp only [Mem.write]
    split
    · rename_i hx
      refine Mem.wf_consByte ?_ hm
      intro c hc
      rcases List.mem_cons.1 hc with rfl | hc
      · exact hx
      · exact Nat.lt_trans hx (ha c hc)
    · split
      · rename_i hx
        subst hx
        exact Mem.wf_consByte ha hm'
      · rename_i h1 h2
        refine Mem.wf_cons.2 ⟨hb, ?_, ih hm'⟩
        intro c hc
        rcases Mem.mem_write hc with h | h
        · omega
        · exact ha c h

/-- A read after a write: the byte written at that address, every other byte as before. -/
theorem Mem.read_write {m : Mem} (hm : Mem.wf m = true) (x y : Nat) (v : Byte) :
    Mem.read (Mem.write m x v) y = if y = x then v else Mem.read m y := by
  induction m with
  | nil => exact Mem.read_consByte (by simp) y
  | cons c m ih =>
    obtain ⟨a, b⟩ := c
    obtain ⟨_, ha, hm'⟩ := Mem.wf_cons.1 hm
    simp only [Mem.write]
    split
    · rename_i hx
      refine Mem.read_consByte ?_ y
      intro c hc
      rcases List.mem_cons.1 hc with rfl | hc
      · exact hx
      · exact Nat.lt_trans hx (ha c hc)
    · split
      · rename_i hx
        subst hx
        rw [Mem.read_consByte ha]
        simp only [Mem.read]
        split <;> rfl
      · simp only [Mem.read, ih hm']
        split
        · split <;> [omega; rfl]
        · rfl

/-- Equal contents in canonical form are equal data. -/
theorem Mem.ext_of_read {m n : Mem} (hm : Mem.wf m = true) (hn : Mem.wf n = true)
    (h : ∀ x, Mem.read m x = Mem.read n x) : m = n := by
  induction m generalizing n with
  | nil =>
    cases n with
    | nil => rfl
    | cons d n =>
      obtain ⟨c, d⟩ := d
      exact absurd (by simpa [Mem.read] using (h c).symm) (Mem.wf_cons.1 hn).1
  | cons e m ih =>
    obtain ⟨a, b⟩ := e
    obtain ⟨hb, ha, hm'⟩ := Mem.wf_cons.1 hm
    cases n with
    | nil => exact absurd (by simpa [Mem.read] using h a) hb
    | cons d n =>
      obtain ⟨c, d⟩ := d
      obtain ⟨hd, hc, hn'⟩ := Mem.wf_cons.1 hn
      have hac : a = c := by
        rcases Nat.lt_trichotomy a c with hlt | heq | hgt
        · have h1 := h a
          rw [Mem.read_below (m := (c, d) :: n)] at h1
          · exact absurd (by simpa [Mem.read] using h1) hb
          · intro e he
            rcases List.mem_cons.1 he with rfl | he
            · exact hlt
            · exact Nat.lt_trans hlt (hc e he)
        · exact heq
        · have h1 := h c
          rw [Mem.read_below (m := (a, b) :: m)] at h1
          · exact absurd (by simpa [Mem.read] using h1.symm) hd
          · intro e he
            rcases List.mem_cons.1 he with rfl | he
            · exact hgt
            · exact Nat.lt_trans hgt (ha e he)
      subst hac
      have hbd : b = d := by simpa [Mem.read] using h a
      subst hbd
      refine congrArg _ (ih hm' hn' fun x => ?_)
      by_cases hx : x = a
      · subst hx
        rw [Mem.read_below ha, Mem.read_below hc]
      · simpa [Mem.read, hx] using h x

@[simp] theorem Mem.read_nil (x : Nat) : Mem.read [] x = 0 := rfl

@[simp] theorem Mem.length_readBytes (m : Mem) (addr n : Nat) : (Mem.readBytes m addr n).length = n := by
  simp [Mem.readBytes]

/-- A longer read is a shorter one followed by the rest. -/
theorem Mem.readBytes_add (m : Mem) (addr n k : Nat) :
    Mem.readBytes m addr (n + k) = Mem.readBytes m addr n ++ Mem.readBytes m (addr + n) k := by
  simp [Mem.readBytes, List.range_add, Function.comp_def, Nat.add_assoc]

theorem Mem.wf_writeBytes (bs : List Byte) {m : Mem} (hm : Mem.wf m = true) (addr : Nat) :
    Mem.wf (Mem.writeBytes m addr bs) = true := by
  induction bs generalizing m addr with
  | nil => exact hm
  | cons b bs ih => exact ih (Mem.wf_write hm addr b) (addr + 1)

/-- The payload buffer stays canonical under `PayloadWrite`. -/
theorem payloadWrite_wf {s : State} (h : Mem.wf s.pkt.payload = true) (k : Nat) (c : Code) :
    Mem.wf (payloadWrite k c s).pkt.payload = true := Mem.wf_write h _ _

theorem loadFile_wf (s : State) (bytes : List Byte) : Mem.wf (s.loadFile bytes).file = true :=
  Mem.wf_writeBytes bytes rfl 0

theorem reset_mem_wf : Mem.wf State.reset.pkt.payload = true ∧ Mem.wf State.reset.file = true := ⟨rfl, rfl⟩

end Sys2Proof.Machine
end

