-- ==== Sys2Proof/Laws/State.lean ====
section
/-! SUPPORT. One lemma per field per update of the state, so that no proof unfolds a record update. -/

namespace Sys2Proof.Machine

variable (s : State)

@[simp] theorem State.withCfg_cfg (v : CfgRegs) : (s.withCfg v).cfg = v := rfl
@[simp] theorem State.withCfg_enc (v : CfgRegs) : (s.withCfg v).enc = s.enc := rfl
@[simp] theorem State.withCfg_dec (v : CfgRegs) : (s.withCfg v).dec = s.dec := rfl
@[simp] theorem State.withCfg_decRejects (v : CfgRegs) : (s.withCfg v).decRejects = s.decRejects := rfl
@[simp] theorem State.withCfg_pkt (v : CfgRegs) : (s.withCfg v).pkt = s.pkt := rfl
@[simp] theorem State.withCfg_pacer (v : CfgRegs) : (s.withCfg v).pacer = s.pacer := rfl
@[simp] theorem State.withCfg_stx (v : CfgRegs) : (s.withCfg v).stx = s.stx := rfl
@[simp] theorem State.withCfg_lsn (v : CfgRegs) : (s.withCfg v).lsn = s.lsn := rfl
@[simp] theorem State.withCfg_xfer (v : CfgRegs) : (s.withCfg v).xfer = s.xfer := rfl
@[simp] theorem State.withCfg_now (v : CfgRegs) : (s.withCfg v).now = s.now := rfl
@[simp] theorem State.withCfg_file (v : CfgRegs) : (s.withCfg v).file = s.file := rfl
@[simp] theorem State.withCfg_outputs (v : CfgRegs) : (s.withCfg v).outputs = s.outputs := rfl
@[simp] theorem State.withCfg_ret (v : CfgRegs) : (s.withCfg v).ret = s.ret := rfl
@[simp] theorem State.withCfg_playback (v : CfgRegs) : (s.withCfg v).playback = s.playback := rfl
@[simp] theorem State.withCfg_sends (v : CfgRegs) : (s.withCfg v).sends = s.sends := rfl
@[simp] theorem State.withCfg_script (v : CfgRegs) : (s.withCfg v).script = s.script := rfl
@[simp] theorem State.withCfg_inbox (v : CfgRegs) : (s.withCfg v).inbox = s.inbox := rfl

@[simp] theorem State.withEnc_cfg (v : Codec) : (s.withEnc v).cfg = s.cfg := rfl
@[simp] theorem State.withEnc_enc (v : Codec) : (s.withEnc v).enc = v := rfl
@[simp] theorem State.withEnc_dec (v : Codec) : (s.withEnc v).dec = s.dec := rfl
@[simp] theorem State.withEnc_decRejects (v : Codec) : (s.withEnc v).decRejects = s.decRejects := rfl
@[simp] theorem State.withEnc_pkt (v : Codec) : (s.withEnc v).pkt = s.pkt := rfl
@[simp] theorem State.withEnc_pacer (v : Codec) : (s.withEnc v).pacer = s.pacer := rfl
@[simp] theorem State.withEnc_stx (v : Codec) : (s.withEnc v).stx = s.stx := rfl
@[simp] theorem State.withEnc_lsn (v : Codec) : (s.withEnc v).lsn = s.lsn := rfl
@[simp] theorem State.withEnc_xfer (v : Codec) : (s.withEnc v).xfer = s.xfer := rfl
@[simp] theorem State.withEnc_now (v : Codec) : (s.withEnc v).now = s.now := rfl
@[simp] theorem State.withEnc_file (v : Codec) : (s.withEnc v).file = s.file := rfl
@[simp] theorem State.withEnc_outputs (v : Codec) : (s.withEnc v).outputs = s.outputs := rfl
@[simp] theorem State.withEnc_ret (v : Codec) : (s.withEnc v).ret = s.ret := rfl
@[simp] theorem State.withEnc_playback (v : Codec) : (s.withEnc v).playback = s.playback := rfl
@[simp] theorem State.withEnc_sends (v : Codec) : (s.withEnc v).sends = s.sends := rfl
@[simp] theorem State.withEnc_script (v : Codec) : (s.withEnc v).script = s.script := rfl
@[simp] theorem State.withEnc_inbox (v : Codec) : (s.withEnc v).inbox = s.inbox := rfl

@[simp] theorem State.withDec_cfg (v : Codec) : (s.withDec v).cfg = s.cfg := rfl
@[simp] theorem State.withDec_enc (v : Codec) : (s.withDec v).enc = s.enc := rfl
@[simp] theorem State.withDec_dec (v : Codec) : (s.withDec v).dec = v := rfl
@[simp] theorem State.withDec_decRejects (v : Codec) : (s.withDec v).decRejects = s.decRejects := rfl
@[simp] theorem State.withDec_pkt (v : Codec) : (s.withDec v).pkt = s.pkt := rfl
@[simp] theorem State.withDec_pacer (v : Codec) : (s.withDec v).pacer = s.pacer := rfl
@[simp] theorem State.withDec_stx (v : Codec) : (s.withDec v).stx = s.stx := rfl
@[simp] theorem State.withDec_lsn (v : Codec) : (s.withDec v).lsn = s.lsn := rfl
@[simp] theorem State.withDec_xfer (v : Codec) : (s.withDec v).xfer = s.xfer := rfl
@[simp] theorem State.withDec_now (v : Codec) : (s.withDec v).now = s.now := rfl
@[simp] theorem State.withDec_file (v : Codec) : (s.withDec v).file = s.file := rfl
@[simp] theorem State.withDec_outputs (v : Codec) : (s.withDec v).outputs = s.outputs := rfl
@[simp] theorem State.withDec_ret (v : Codec) : (s.withDec v).ret = s.ret := rfl
@[simp] theorem State.withDec_playback (v : Codec) : (s.withDec v).playback = s.playback := rfl
@[simp] theorem State.withDec_sends (v : Codec) : (s.withDec v).sends = s.sends := rfl
@[simp] theorem State.withDec_script (v : Codec) : (s.withDec v).script = s.script := rfl
@[simp] theorem State.withDec_inbox (v : Codec) : (s.withDec v).inbox = s.inbox := rfl

@[simp] theorem State.withDecRejects_cfg (v : Nat) : (s.withDecRejects v).cfg = s.cfg := rfl
@[simp] theorem State.withDecRejects_enc (v : Nat) : (s.withDecRejects v).enc = s.enc := rfl
@[simp] theorem State.withDecRejects_dec (v : Nat) : (s.withDecRejects v).dec = s.dec := rfl
@[simp] theorem State.withDecRejects_decRejects (v : Nat) : (s.withDecRejects v).decRejects = v := rfl
@[simp] theorem State.withDecRejects_pkt (v : Nat) : (s.withDecRejects v).pkt = s.pkt := rfl
@[simp] theorem State.withDecRejects_pacer (v : Nat) : (s.withDecRejects v).pacer = s.pacer := rfl
@[simp] theorem State.withDecRejects_stx (v : Nat) : (s.withDecRejects v).stx = s.stx := rfl
@[simp] theorem State.withDecRejects_lsn (v : Nat) : (s.withDecRejects v).lsn = s.lsn := rfl
@[simp] theorem State.withDecRejects_xfer (v : Nat) : (s.withDecRejects v).xfer = s.xfer := rfl
@[simp] theorem State.withDecRejects_now (v : Nat) : (s.withDecRejects v).now = s.now := rfl
@[simp] theorem State.withDecRejects_file (v : Nat) : (s.withDecRejects v).file = s.file := rfl
@[simp] theorem State.withDecRejects_outputs (v : Nat) : (s.withDecRejects v).outputs = s.outputs := rfl
@[simp] theorem State.withDecRejects_ret (v : Nat) : (s.withDecRejects v).ret = s.ret := rfl
@[simp] theorem State.withDecRejects_playback (v : Nat) : (s.withDecRejects v).playback = s.playback := rfl
@[simp] theorem State.withDecRejects_sends (v : Nat) : (s.withDecRejects v).sends = s.sends := rfl
@[simp] theorem State.withDecRejects_script (v : Nat) : (s.withDecRejects v).script = s.script := rfl
@[simp] theorem State.withDecRejects_inbox (v : Nat) : (s.withDecRejects v).inbox = s.inbox := rfl

@[simp] theorem State.withPkt_cfg (v : Pkt) : (s.withPkt v).cfg = s.cfg := rfl
@[simp] theorem State.withPkt_enc (v : Pkt) : (s.withPkt v).enc = s.enc := rfl
@[simp] theorem State.withPkt_dec (v : Pkt) : (s.withPkt v).dec = s.dec := rfl
@[simp] theorem State.withPkt_decRejects (v : Pkt) : (s.withPkt v).decRejects = s.decRejects := rfl
@[simp] theorem State.withPkt_pkt (v : Pkt) : (s.withPkt v).pkt = v := rfl
@[simp] theorem State.withPkt_pacer (v : Pkt) : (s.withPkt v).pacer = s.pacer := rfl
@[simp] theorem State.withPkt_stx (v : Pkt) : (s.withPkt v).stx = s.stx := rfl
@[simp] theorem State.withPkt_lsn (v : Pkt) : (s.withPkt v).lsn = s.lsn := rfl
@[simp] theorem State.withPkt_xfer (v : Pkt) : (s.withPkt v).xfer = s.xfer := rfl
@[simp] theorem State.withPkt_now (v : Pkt) : (s.withPkt v).now = s.now := rfl
@[simp] theorem State.withPkt_file (v : Pkt) : (s.withPkt v).file = s.file := rfl
@[simp] theorem State.withPkt_outputs (v : Pkt) : (s.withPkt v).outputs = s.outputs := rfl
@[simp] theorem State.withPkt_ret (v : Pkt) : (s.withPkt v).ret = s.ret := rfl
@[simp] theorem State.withPkt_playback (v : Pkt) : (s.withPkt v).playback = s.playback := rfl
@[simp] theorem State.withPkt_sends (v : Pkt) : (s.withPkt v).sends = s.sends := rfl
@[simp] theorem State.withPkt_script (v : Pkt) : (s.withPkt v).script = s.script := rfl
@[simp] theorem State.withPkt_inbox (v : Pkt) : (s.withPkt v).inbox = s.inbox := rfl

@[simp] theorem State.withPacer_cfg (v : Pacer) : (s.withPacer v).cfg = s.cfg := rfl
@[simp] theorem State.withPacer_enc (v : Pacer) : (s.withPacer v).enc = s.enc := rfl
@[simp] theorem State.withPacer_dec (v : Pacer) : (s.withPacer v).dec = s.dec := rfl
@[simp] theorem State.withPacer_decRejects (v : Pacer) : (s.withPacer v).decRejects = s.decRejects := rfl
@[simp] theorem State.withPacer_pkt (v : Pacer) : (s.withPacer v).pkt = s.pkt := rfl
@[simp] theorem State.withPacer_pacer (v : Pacer) : (s.withPacer v).pacer = v := rfl
@[simp] theorem State.withPacer_stx (v : Pacer) : (s.withPacer v).stx = s.stx := rfl
@[simp] theorem State.withPacer_lsn (v : Pacer) : (s.withPacer v).lsn = s.lsn := rfl
@[simp] theorem State.withPacer_xfer (v : Pacer) : (s.withPacer v).xfer = s.xfer := rfl
@[simp] theorem State.withPacer_now (v : Pacer) : (s.withPacer v).now = s.now := rfl
@[simp] theorem State.withPacer_file (v : Pacer) : (s.withPacer v).file = s.file := rfl
@[simp] theorem State.withPacer_outputs (v : Pacer) : (s.withPacer v).outputs = s.outputs := rfl
@[simp] theorem State.withPacer_ret (v : Pacer) : (s.withPacer v).ret = s.ret := rfl
@[simp] theorem State.withPacer_playback (v : Pacer) : (s.withPacer v).playback = s.playback := rfl
@[simp] theorem State.withPacer_sends (v : Pacer) : (s.withPacer v).sends = s.sends := rfl
@[simp] theorem State.withPacer_script (v : Pacer) : (s.withPacer v).script = s.script := rfl
@[simp] theorem State.withPacer_inbox (v : Pacer) : (s.withPacer v).inbox = s.inbox := rfl

@[simp] theorem State.withStx_cfg (v : Stx) : (s.withStx v).cfg = s.cfg := rfl
@[simp] theorem State.withStx_enc (v : Stx) : (s.withStx v).enc = s.enc := rfl
@[simp] theorem State.withStx_dec (v : Stx) : (s.withStx v).dec = s.dec := rfl
@[simp] theorem State.withStx_decRejects (v : Stx) : (s.withStx v).decRejects = s.decRejects := rfl
@[simp] theorem State.withStx_pkt (v : Stx) : (s.withStx v).pkt = s.pkt := rfl
@[simp] theorem State.withStx_pacer (v : Stx) : (s.withStx v).pacer = s.pacer := rfl
@[simp] theorem State.withStx_stx (v : Stx) : (s.withStx v).stx = v := rfl
@[simp] theorem State.withStx_lsn (v : Stx) : (s.withStx v).lsn = s.lsn := rfl
@[simp] theorem State.withStx_xfer (v : Stx) : (s.withStx v).xfer = s.xfer := rfl
@[simp] theorem State.withStx_now (v : Stx) : (s.withStx v).now = s.now := rfl
@[simp] theorem State.withStx_file (v : Stx) : (s.withStx v).file = s.file := rfl
@[simp] theorem State.withStx_outputs (v : Stx) : (s.withStx v).outputs = s.outputs := rfl
@[simp] theorem State.withStx_ret (v : Stx) : (s.withStx v).ret = s.ret := rfl
@[simp] theorem State.withStx_playback (v : Stx) : (s.withStx v).playback = s.playback := rfl
@[simp] theorem State.withStx_sends (v : Stx) : (s.withStx v).sends = s.sends := rfl
@[simp] theorem State.withStx_script (v : Stx) : (s.withStx v).script = s.script := rfl
@[simp] theorem State.withStx_inbox (v : Stx) : (s.withStx v).inbox = s.inbox := rfl

@[simp] theorem State.withLsn_cfg (v : Lsn) : (s.withLsn v).cfg = s.cfg := rfl
@[simp] theorem State.withLsn_enc (v : Lsn) : (s.withLsn v).enc = s.enc := rfl
@[simp] theorem State.withLsn_dec (v : Lsn) : (s.withLsn v).dec = s.dec := rfl
@[simp] theorem State.withLsn_decRejects (v : Lsn) : (s.withLsn v).decRejects = s.decRejects := rfl
@[simp] theorem State.withLsn_pkt (v : Lsn) : (s.withLsn v).pkt = s.pkt := rfl
@[simp] theorem State.withLsn_pacer (v : Lsn) : (s.withLsn v).pacer = s.pacer := rfl
@[simp] theorem State.withLsn_stx (v : Lsn) : (s.withLsn v).stx = s.stx := rfl
@[simp] theorem State.withLsn_lsn (v : Lsn) : (s.withLsn v).lsn = v := rfl
@[simp] theorem State.withLsn_xfer (v : Lsn) : (s.withLsn v).xfer = s.xfer := rfl
@[simp] theorem State.withLsn_now (v : Lsn) : (s.withLsn v).now = s.now := rfl
@[simp] theorem State.withLsn_file (v : Lsn) : (s.withLsn v).file = s.file := rfl
@[simp] theorem State.withLsn_outputs (v : Lsn) : (s.withLsn v).outputs = s.outputs := rfl
@[simp] theorem State.withLsn_ret (v : Lsn) : (s.withLsn v).ret = s.ret := rfl
@[simp] theorem State.withLsn_playback (v : Lsn) : (s.withLsn v).playback = s.playback := rfl
@[simp] theorem State.withLsn_sends (v : Lsn) : (s.withLsn v).sends = s.sends := rfl
@[simp] theorem State.withLsn_script (v : Lsn) : (s.withLsn v).script = s.script := rfl
@[simp] theorem State.withLsn_inbox (v : Lsn) : (s.withLsn v).inbox = s.inbox := rfl

@[simp] theorem State.withXfer_cfg (v : Xfer) : (s.withXfer v).cfg = s.cfg := rfl
@[simp] theorem State.withXfer_enc (v : Xfer) : (s.withXfer v).enc = s.enc := rfl
@[simp] theorem State.withXfer_dec (v : Xfer) : (s.withXfer v).dec = s.dec := rfl
@[simp] theorem State.withXfer_decRejects (v : Xfer) : (s.withXfer v).decRejects = s.decRejects := rfl
@[simp] theorem State.withXfer_pkt (v : Xfer) : (s.withXfer v).pkt = s.pkt := rfl
@[simp] theorem State.withXfer_pacer (v : Xfer) : (s.withXfer v).pacer = s.pacer := rfl
@[simp] theorem State.withXfer_stx (v : Xfer) : (s.withXfer v).stx = s.stx := rfl
@[simp] theorem State.withXfer_lsn (v : Xfer) : (s.withXfer v).lsn = s.lsn := rfl
@[simp] theorem State.withXfer_xfer (v : Xfer) : (s.withXfer v).xfer = v := rfl
@[simp] theorem State.withXfer_now (v : Xfer) : (s.withXfer v).now = s.now := rfl
@[simp] theorem State.withXfer_file (v : Xfer) : (s.withXfer v).file = s.file := rfl
@[simp] theorem State.withXfer_outputs (v : Xfer) : (s.withXfer v).outputs = s.outputs := rfl
@[simp] theorem State.withXfer_ret (v : Xfer) : (s.withXfer v).ret = s.ret := rfl
@[simp] theorem State.withXfer_playback (v : Xfer) : (s.withXfer v).playback = s.playback := rfl
@[simp] theorem State.withXfer_sends (v : Xfer) : (s.withXfer v).sends = s.sends := rfl
@[simp] theorem State.withXfer_script (v : Xfer) : (s.withXfer v).script = s.script := rfl
@[simp] theorem State.withXfer_inbox (v : Xfer) : (s.withXfer v).inbox = s.inbox := rfl

@[simp] theorem State.withNow_cfg (v : Nat) : (s.withNow v).cfg = s.cfg := rfl
@[simp] theorem State.withNow_enc (v : Nat) : (s.withNow v).enc = s.enc := rfl
@[simp] theorem State.withNow_dec (v : Nat) : (s.withNow v).dec = s.dec := rfl
@[simp] theorem State.withNow_decRejects (v : Nat) : (s.withNow v).decRejects = s.decRejects := rfl
@[simp] theorem State.withNow_pkt (v : Nat) : (s.withNow v).pkt = s.pkt := rfl
@[simp] theorem State.withNow_pacer (v : Nat) : (s.withNow v).pacer = s.pacer := rfl
@[simp] theorem State.withNow_stx (v : Nat) : (s.withNow v).stx = s.stx := rfl
@[simp] theorem State.withNow_lsn (v : Nat) : (s.withNow v).lsn = s.lsn := rfl
@[simp] theorem State.withNow_xfer (v : Nat) : (s.withNow v).xfer = s.xfer := rfl
@[simp] theorem State.withNow_now (v : Nat) : (s.withNow v).now = v := rfl
@[simp] theorem State.withNow_file (v : Nat) : (s.withNow v).file = s.file := rfl
@[simp] theorem State.withNow_outputs (v : Nat) : (s.withNow v).outputs = s.outputs := rfl
@[simp] theorem State.withNow_ret (v : Nat) : (s.withNow v).ret = s.ret := rfl
@[simp] theorem State.withNow_playback (v : Nat) : (s.withNow v).playback = s.playback := rfl
@[simp] theorem State.withNow_sends (v : Nat) : (s.withNow v).sends = s.sends := rfl
@[simp] theorem State.withNow_script (v : Nat) : (s.withNow v).script = s.script := rfl
@[simp] theorem State.withNow_inbox (v : Nat) : (s.withNow v).inbox = s.inbox := rfl

@[simp] theorem State.withFile_cfg (v : Mem) : (s.withFile v).cfg = s.cfg := rfl
@[simp] theorem State.withFile_enc (v : Mem) : (s.withFile v).enc = s.enc := rfl
@[simp] theorem State.withFile_dec (v : Mem) : (s.withFile v).dec = s.dec := rfl
@[simp] theorem State.withFile_decRejects (v : Mem) : (s.withFile v).decRejects = s.decRejects := rfl
@[simp] theorem State.withFile_pkt (v : Mem) : (s.withFile v).pkt = s.pkt := rfl
@[simp] theorem State.withFile_pacer (v : Mem) : (s.withFile v).pacer = s.pacer := rfl
@[simp] theorem State.withFile_stx (v : Mem) : (s.withFile v).stx = s.stx := rfl
@[simp] theorem State.withFile_lsn (v : Mem) : (s.withFile v).lsn = s.lsn := rfl
@[simp] theorem State.withFile_xfer (v : Mem) : (s.withFile v).xfer = s.xfer := rfl
@[simp] theorem State.withFile_now (v : Mem) : (s.withFile v).now = s.now := rfl
@[simp] theorem State.withFile_file (v : Mem) : (s.withFile v).file = v := rfl
@[simp] theorem State.withFile_outputs (v : Mem) : (s.withFile v).outputs = s.outputs := rfl
@[simp] theorem State.withFile_ret (v : Mem) : (s.withFile v).ret = s.ret := rfl
@[simp] theorem State.withFile_playback (v : Mem) : (s.withFile v).playback = s.playback := rfl
@[simp] theorem State.withFile_sends (v : Mem) : (s.withFile v).sends = s.sends := rfl
@[simp] theorem State.withFile_script (v : Mem) : (s.withFile v).script = s.script := rfl
@[simp] theorem State.withFile_inbox (v : Mem) : (s.withFile v).inbox = s.inbox := rfl

@[simp] theorem State.withOutputs_cfg (v : List Output) : (s.withOutputs v).cfg = s.cfg := rfl
@[simp] theorem State.withOutputs_enc (v : List Output) : (s.withOutputs v).enc = s.enc := rfl
@[simp] theorem State.withOutputs_dec (v : List Output) : (s.withOutputs v).dec = s.dec := rfl
@[simp] theorem State.withOutputs_decRejects (v : List Output) : (s.withOutputs v).decRejects = s.decRejects := rfl
@[simp] theorem State.withOutputs_pkt (v : List Output) : (s.withOutputs v).pkt = s.pkt := rfl
@[simp] theorem State.withOutputs_pacer (v : List Output) : (s.withOutputs v).pacer = s.pacer := rfl
@[simp] theorem State.withOutputs_stx (v : List Output) : (s.withOutputs v).stx = s.stx := rfl
@[simp] theorem State.withOutputs_lsn (v : List Output) : (s.withOutputs v).lsn = s.lsn := rfl
@[simp] theorem State.withOutputs_xfer (v : List Output) : (s.withOutputs v).xfer = s.xfer := rfl
@[simp] theorem State.withOutputs_now (v : List Output) : (s.withOutputs v).now = s.now := rfl
@[simp] theorem State.withOutputs_file (v : List Output) : (s.withOutputs v).file = s.file := rfl
@[simp] theorem State.withOutputs_outputs (v : List Output) : (s.withOutputs v).outputs = v := rfl
@[simp] theorem State.withOutputs_ret (v : List Output) : (s.withOutputs v).ret = s.ret := rfl
@[simp] theorem State.withOutputs_playback (v : List Output) : (s.withOutputs v).playback = s.playback := rfl
@[simp] theorem State.withOutputs_sends (v : List Output) : (s.withOutputs v).sends = s.sends := rfl
@[simp] theorem State.withOutputs_script (v : List Output) : (s.withOutputs v).script = s.script := rfl
@[simp] theorem State.withOutputs_inbox (v : List Output) : (s.withOutputs v).inbox = s.inbox := rfl

@[simp] theorem State.withRet_cfg (v : Ret) : (s.withRet v).cfg = s.cfg := rfl
@[simp] theorem State.withRet_enc (v : Ret) : (s.withRet v).enc = s.enc := rfl
@[simp] theorem State.withRet_dec (v : Ret) : (s.withRet v).dec = s.dec := rfl
@[simp] theorem State.withRet_decRejects (v : Ret) : (s.withRet v).decRejects = s.decRejects := rfl
@[simp] theorem State.withRet_pkt (v : Ret) : (s.withRet v).pkt = s.pkt := rfl
@[simp] theorem State.withRet_pacer (v : Ret) : (s.withRet v).pacer = s.pacer := rfl
@[simp] theorem State.withRet_stx (v : Ret) : (s.withRet v).stx = s.stx := rfl
@[simp] theorem State.withRet_lsn (v : Ret) : (s.withRet v).lsn = s.lsn := rfl
@[simp] theorem State.withRet_xfer (v : Ret) : (s.withRet v).xfer = s.xfer := rfl
@[simp] theorem State.withRet_now (v : Ret) : (s.withRet v).now = s.now := rfl
@[simp] theorem State.withRet_file (v : Ret) : (s.withRet v).file = s.file := rfl
@[simp] theorem State.withRet_outputs (v : Ret) : (s.withRet v).outputs = s.outputs := rfl
@[simp] theorem State.withRet_ret (v : Ret) : (s.withRet v).ret = v := rfl
@[simp] theorem State.withRet_playback (v : Ret) : (s.withRet v).playback = s.playback := rfl
@[simp] theorem State.withRet_sends (v : Ret) : (s.withRet v).sends = s.sends := rfl
@[simp] theorem State.withRet_script (v : Ret) : (s.withRet v).script = s.script := rfl
@[simp] theorem State.withRet_inbox (v : Ret) : (s.withRet v).inbox = s.inbox := rfl

@[simp] theorem State.withPlayback_cfg (v : Playback) : (s.withPlayback v).cfg = s.cfg := rfl
@[simp] theorem State.withPlayback_enc (v : Playback) : (s.withPlayback v).enc = s.enc := rfl
@[simp] theorem State.withPlayback_dec (v : Playback) : (s.withPlayback v).dec = s.dec := rfl
@[simp] theorem State.withPlayback_decRejects (v : Playback) : (s.withPlayback v).decRejects = s.decRejects := rfl
@[simp] theorem State.withPlayback_pkt (v : Playback) : (s.withPlayback v).pkt = s.pkt := rfl
@[simp] theorem State.withPlayback_pacer (v : Playback) : (s.withPlayback v).pacer = s.pacer := rfl
@[simp] theorem State.withPlayback_stx (v : Playback) : (s.withPlayback v).stx = s.stx := rfl
@[simp] theorem State.withPlayback_lsn (v : Playback) : (s.withPlayback v).lsn = s.lsn := rfl
@[simp] theorem State.withPlayback_xfer (v : Playback) : (s.withPlayback v).xfer = s.xfer := rfl
@[simp] theorem State.withPlayback_now (v : Playback) : (s.withPlayback v).now = s.now := rfl
@[simp] theorem State.withPlayback_file (v : Playback) : (s.withPlayback v).file = s.file := rfl
@[simp] theorem State.withPlayback_outputs (v : Playback) : (s.withPlayback v).outputs = s.outputs := rfl
@[simp] theorem State.withPlayback_ret (v : Playback) : (s.withPlayback v).ret = s.ret := rfl
@[simp] theorem State.withPlayback_playback (v : Playback) : (s.withPlayback v).playback = v := rfl
@[simp] theorem State.withPlayback_sends (v : Playback) : (s.withPlayback v).sends = s.sends := rfl
@[simp] theorem State.withPlayback_script (v : Playback) : (s.withPlayback v).script = s.script := rfl
@[simp] theorem State.withPlayback_inbox (v : Playback) : (s.withPlayback v).inbox = s.inbox := rfl

@[simp] theorem State.withSends_cfg (v : Nat) : (s.withSends v).cfg = s.cfg := rfl
@[simp] theorem State.withSends_enc (v : Nat) : (s.withSends v).enc = s.enc := rfl
@[simp] theorem State.withSends_dec (v : Nat) : (s.withSends v).dec = s.dec := rfl
@[simp] theorem State.withSends_decRejects (v : Nat) : (s.withSends v).decRejects = s.decRejects := rfl
@[simp] theorem State.withSends_pkt (v : Nat) : (s.withSends v).pkt = s.pkt := rfl
@[simp] theorem State.withSends_pacer (v : Nat) : (s.withSends v).pacer = s.pacer := rfl
@[simp] theorem State.withSends_stx (v : Nat) : (s.withSends v).stx = s.stx := rfl
@[simp] theorem State.withSends_lsn (v : Nat) : (s.withSends v).lsn = s.lsn := rfl
@[simp] theorem State.withSends_xfer (v : Nat) : (s.withSends v).xfer = s.xfer := rfl
@[simp] theorem State.withSends_now (v : Nat) : (s.withSends v).now = s.now := rfl
@[simp] theorem State.withSends_file (v : Nat) : (s.withSends v).file = s.file := rfl
@[simp] theorem State.withSends_outputs (v : Nat) : (s.withSends v).outputs = s.outputs := rfl
@[simp] theorem State.withSends_ret (v : Nat) : (s.withSends v).ret = s.ret := rfl
@[simp] theorem State.withSends_playback (v : Nat) : (s.withSends v).playback = s.playback := rfl
@[simp] theorem State.withSends_sends (v : Nat) : (s.withSends v).sends = v := rfl
@[simp] theorem State.withSends_script (v : Nat) : (s.withSends v).script = s.script := rfl
@[simp] theorem State.withSends_inbox (v : Nat) : (s.withSends v).inbox = s.inbox := rfl

@[simp] theorem State.withScript_cfg (v : List Transaction) : (s.withScript v).cfg = s.cfg := rfl
@[simp] theorem State.withScript_enc (v : List Transaction) : (s.withScript v).enc = s.enc := rfl
@[simp] theorem State.withScript_dec (v : List Transaction) : (s.withScript v).dec = s.dec := rfl
@[simp] theorem State.withScript_decRejects (v : List Transaction) : (s.withScript v).decRejects = s.decRejects := rfl
@[simp] theorem State.withScript_pkt (v : List Transaction) : (s.withScript v).pkt = s.pkt := rfl
@[simp] theorem State.withScript_pacer (v : List Transaction) : (s.withScript v).pacer = s.pacer := rfl
@[simp] theorem State.withScript_stx (v : List Transaction) : (s.withScript v).stx = s.stx := rfl
@[simp] theorem State.withScript_lsn (v : List Transaction) : (s.withScript v).lsn = s.lsn := rfl
@[simp] theorem State.withScript_xfer (v : List Transaction) : (s.withScript v).xfer = s.xfer := rfl
@[simp] theorem State.withScript_now (v : List Transaction) : (s.withScript v).now = s.now := rfl
@[simp] theorem State.withScript_file (v : List Transaction) : (s.withScript v).file = s.file := rfl
@[simp] theorem State.withScript_outputs (v : List Transaction) : (s.withScript v).outputs = s.outputs := rfl
@[simp] theorem State.withScript_ret (v : List Transaction) : (s.withScript v).ret = s.ret := rfl
@[simp] theorem State.withScript_playback (v : List Transaction) : (s.withScript v).playback = s.playback := rfl
@[simp] theorem State.withScript_sends (v : List Transaction) : (s.withScript v).sends = s.sends := rfl
@[simp] theorem State.withScript_script (v : List Transaction) : (s.withScript v).script = v := rfl
@[simp] theorem State.withScript_inbox (v : List Transaction) : (s.withScript v).inbox = s.inbox := rfl

@[simp] theorem State.withInbox_cfg (v : List Arrival) : (s.withInbox v).cfg = s.cfg := rfl
@[simp] theorem State.withInbox_enc (v : List Arrival) : (s.withInbox v).enc = s.enc := rfl
@[simp] theorem State.withInbox_dec (v : List Arrival) : (s.withInbox v).dec = s.dec := rfl
@[simp] theorem State.withInbox_decRejects (v : List Arrival) : (s.withInbox v).decRejects = s.decRejects := rfl
@[simp] theorem State.withInbox_pkt (v : List Arrival) : (s.withInbox v).pkt = s.pkt := rfl
@[simp] theorem State.withInbox_pacer (v : List Arrival) : (s.withInbox v).pacer = s.pacer := rfl
@[simp] theorem State.withInbox_stx (v : List Arrival) : (s.withInbox v).stx = s.stx := rfl
@[simp] theorem State.withInbox_lsn (v : List Arrival) : (s.withInbox v).lsn = s.lsn := rfl
@[simp] theorem State.withInbox_xfer (v : List Arrival) : (s.withInbox v).xfer = s.xfer := rfl
@[simp] theorem State.withInbox_now (v : List Arrival) : (s.withInbox v).now = s.now := rfl
@[simp] theorem State.withInbox_file (v : List Arrival) : (s.withInbox v).file = s.file := rfl
@[simp] theorem State.withInbox_outputs (v : List Arrival) : (s.withInbox v).outputs = s.outputs := rfl
@[simp] theorem State.withInbox_ret (v : List Arrival) : (s.withInbox v).ret = s.ret := rfl
@[simp] theorem State.withInbox_playback (v : List Arrival) : (s.withInbox v).playback = s.playback := rfl
@[simp] theorem State.withInbox_sends (v : List Arrival) : (s.withInbox v).sends = s.sends := rfl
@[simp] theorem State.withInbox_script (v : List Arrival) : (s.withInbox v).script = s.script := rfl
@[simp] theorem State.withInbox_inbox (v : List Arrival) : (s.withInbox v).inbox = v := rfl

end Sys2Proof.Machine
end

