-- ==== Sys2Proof/Laws/Text.lean ====
section
/-! SUPPORT. The laws of decimal numbers and message bodies (30_encoding.md R75, R76, R83). -/

namespace Sys2Proof.Machine

theorem digitByte_toNat {d : Nat} (h : d < 10) : (digitByte d).toNat = 48 + d := by
  simp [digitByte]
  omega

theorem isDigit_digitByte {d : Nat} (h : d < 10) : isDigit (digitByte d) = true := by
  simp [isDigit, digitByte_toNat h]
  omega

/-- What the digits of a number are: those of its quotient by ten, then its last digit. -/
theorem decDigits_eq (fuel : Nat) (n : Nat) (acc : List Byte) (h : n < fuel) :
    decDigits fuel n acc = (if n < 10 then [] else decDigits (fuel - 1) (n / 10) []) ++
      digitByte (n % 10) :: acc := by
  induction fuel generalizing n acc with
  | zero => omega
  | succ fuel ih =>
    simp only [decDigits, Nat.add_sub_cancel]
    by_cases hn : n < 10
    · simp [hn]
    · have h0 : n / 10 ≠ 0 := by omega
      rw [if_neg h0, if_neg hn, ih (n / 10) _ (by omega), ih (n / 10) [] (by omega)]
      simp

/-- More fuel than the number gives nothing else. -/
theorem decDigits_fuel (a b n : Nat) (acc : List Byte) (ha : n < a) (hb : n < b) :
    decDigits a n acc = decDigits b n acc := by
  induction a generalizing b n acc with
  | zero => omega
  | succ a ih =>
    cases b with
    | zero => omega
    | succ b =>
      simp only [decDigits]
      split
      · rfl
      · exact ih b _ _ (by omega) (by omega)

/-- The decimal spelling, by its last digit. -/
theorem dec_eq (n : Nat) :
    dec n = (if n < 10 then [] else dec (n / 10)) ++ [digitByte (n % 10)] := by
  unfold dec
  rw [decDigits_eq (n + 1) n [] (by omega)]
  by_cases hn : n < 10
  · simp [hn]
  · rw [if_neg hn, if_neg hn, Nat.add_sub_cancel,
      decDigits_fuel n (n / 10 + 1) (n / 10) [] (by omega) (by omega)]

theorem dec_ne_nil (n : Nat) : dec n ≠ [] := by
  rw [dec_eq]
  simp

/-- A decimal spelling holds digits only. -/
theorem dec_isDigit (n : Nat) : ∀ b ∈ dec n, isDigit b = true := by
  induction n using Nat.strongRecOn with
  | ind n ih =>
    intro b hb
    rw [dec_eq] at hb
    rcases List.mem_append.1 hb with hb | hb
    · split at hb
      · simp at hb
      · exact ih (n / 10) (by omega) b hb
    · simp only [List.mem_singleton] at hb
      subst hb
      exact isDigit_digitByte (by omega)

theorem decValue_append (as : List Byte) (b : Byte) :
    decValue (as ++ [b]) = decValue as * 10 + (b.toNat - 48) := by
  simp [decValue]

/-- A decimal spelling has the number as its value. -/
theorem decValue_dec (n : Nat) : decValue (dec n) = n := by
  induction n using Nat.strongRecOn with
  | ind n ih =>
    rw [dec_eq, decValue_append, digitByte_toNat (by omega)]
    split
    · simp [decValue]
      omega
    · rw [ih (n / 10) (by omega)]
      omega

theorem undecNat_dec (n : Nat) : undecNat (dec n) = some n := by
  have h : (dec n).all isDigit = true := List.all_eq_true.2 (dec_isDigit n)
  have h' : (dec n).isEmpty = false := by simp [dec_ne_nil]
  simp [undecNat, h, h', decValue_dec]

/-- Reading a spelling gives the number back, if it fits. -/
theorem undec_dec {n : Nat} (h : n < 2 ^ 32) : undec (dec n) = some n := by
  simp only [undec, undecNat_dec, Config.wSize, h, if_true]

theorem colon_not_digit : isDigit colon = false := by decide

theorem colon_not_mem_dec (n : Nat) : colon ∉ dec n := by
  intro h
  have := dec_isDigit n _ h
  simp [colon_not_digit] at this

/-- A body is cut at its first colon. -/
theorem splitColon_append {d : List Byte} (h : colon ∉ d) (r : List Byte) :
    splitColon (d ++ colon :: r) = some (d, r) := by
  induction d with
  | nil => simp [splitColon]
  | cons b d ih =>
    have hb : b ≠ colon := fun hb => h (by simp [hb])
    simp [splitColon, hb, ih fun hd => h (by simp [hd])]

/-- What is cut at a colon, and only that. -/
theorem splitColon_some {b d r : List Byte} (h : splitColon b = some (d, r)) :
    b = d ++ colon :: r ∧ colon ∉ d := by
  induction b generalizing d with
  | nil => simp [splitColon] at h
  | cons x b ih =>
    simp only [splitColon] at h
    split at h
    · rename_i hx
      simp only [Option.some.injEq, Prod.mk.injEq] at h
      obtain ⟨rfl, rfl⟩ := h
      simp [hx]
    · rename_i hx
      split at h
      · rename_i d' r' heq
        simp only [Option.some.injEq, Prod.mk.injEq] at h
        obtain ⟨rfl, rfl⟩ := h
        obtain ⟨rfl, hd⟩ := ih heq
        simp [hd, Ne.symm hx]
      · simp at h

@[simp] theorem afterPrefix_append (p r : List Byte) : afterPrefix p (p ++ r) = some r := by
  induction p with
  | nil => rfl
  | cons x p ih => simp [afterPrefix, ih]

theorem afterPrefix_some {p b r : List Byte} (h : afterPrefix p b = some r) : b = p ++ r := by
  induction p generalizing b with
  | nil => simpa [afterPrefix] using h
  | cons x p ih =>
    cases b with
    | nil => simp [afterPrefix] at h
    | cons y b =>
      simp only [afterPrefix] at h
      split at h
      · rename_i hxy
        rw [hxy, ih h, List.cons_append]
      · simp at h

/-- What `undec` reads: digits, at least one, and a value that fits (R76). -/
theorem undec_some {b : List Byte} {n : Nat} (h : undec b = some n) :
    b ≠ [] ∧ (∀ d ∈ b, isDigit d = true) ∧ decValue b = n ∧ n < 2 ^ 32 := by
  unfold undec undecNat at h
  split at h
  · rename_i m hm
    split at hm
    · rename_i hb
      split at h
      · rename_i hlt
        simp only [Option.some.injEq] at h hm
        subst h hm
        simp only [Bool.and_eq_true, Bool.not_eq_true', List.all_eq_true] at hb
        refine ⟨fun h0 => by simp [h0] at hb, hb.2, rfl, hlt⟩
      · simp at h
    · simp at hm
  · simp at h

theorem parseFree_some {body : List Byte} {f r : Nat} (h : parseFree body = some (f, r)) :
    f < 2 ^ 32 ∧ r < 2 ^ 32 := by
  unfold parseFree at h
  split at h
  · simp at h
  · split at h
    · simp at h
    · split at h
      · rename_i h1 h2
        simp only [Option.some.injEq, Prod.mk.injEq] at h
        obtain ⟨rfl, rfl⟩ := h
        exact ⟨(undec_some h1).2.2.2, (undec_some h2).2.2.2⟩
      · simp at h

theorem parseAck_some {body : List Byte} {n : Nat} (h : parseAck body = some n) : n < 2 ^ 32 := by
  unfold parseAck at h
  split at h
  · simp at h
  · exact (undec_some h).2.2.2

/-- The body of a `FREE` message is read back. -/
theorem parseFree_freeBody {f r : Nat} (hf : f < 2 ^ 32) (hr : r < 2 ^ 32) :
    parseFree (freeBody f r) = some (f, r) := by
  simp [parseFree, freeBody, List.append_assoc, splitColon_append (colon_not_mem_dec f), undec_dec hf,
    undec_dec hr]

/-- The body of an `ACK` message is read back. -/
theorem parseAck_ackBody {n : Nat} (h : n < 2 ^ 32) : parseAck (ackBody n) = some n := by
  simp [parseAck, ackBody, undec_dec h]

end Sys2Proof.Machine
end

