-- ==== Sys2Proof/Laws/Ops.lean ====
section
/-! SUPPORT. For each shared operation, once, everything it does: the fields it changes and that the others
stay. -/

namespace Sys2Proof.Machine

/-- `emit` adds one output and nothing else. -/
theorem emit_eq (o : Output) (s : State) : emit o s = { s with outputs := o :: s.outputs } := rfl

/-- `ENC_LOAD` changes `ENC` alone. -/
theorem encLoad_eq (p : Sample) (i : StepIndex) (s : State) :
    encLoad p i s = { s with enc := { predictor := p, stepIndex := i } } := rfl

/-- `DEC_LOAD` changes `DEC` alone. -/
theorem decLoad_eq (p : Sample) (i : StepIndex) (s : State) :
    decLoad p i s = { s with dec := { predictor := p, stepIndex := i } } := rfl

/-- `PACE_ANCHOR` changes the pacer alone. -/
theorem paceAnchor_eq (s : State) :
    paceAnchor s =
      { s with pacer := { startTime := s.now, framesSent := 0, targetTime := s.now } } := rfl

/-- `PACE_MARK` changes the pacer alone. -/
theorem paceMark_eq (s : State) :
    paceMark s =
      { s with pacer := { startTime := s.pacer.startTime, framesSent := s.pacer.framesSent + 1,
                          targetTime := markTarget s } } := rfl

/-- A cancelled stream: its frame and its packet are gone. -/
theorem endStream_eq (s : State) :
    endStream s =
      { s with pkt := { s.pkt with out := none, pos := 0, payload := [] }
               stx := { s.stx with eof := false, state := .idle } } := rfl

/-- `TX_SEND_FAIL` counts and reports. -/
theorem takeEvent_txSendFail (info : SizeWord) (s : State) :
    takeEvent .txSendFail info s =
      { s with stx := { s.stx with txFailCount := s.stx.txFailCount + 1 }
               outputs := .event 1 info :: s.outputs } := rfl

/-- `CAPTURE_OVERRUN` counts and reports. -/
theorem takeEvent_captureOverrun (info : SizeWord) (s : State) :
    takeEvent .captureOverrun info s =
      { s with stx := { s.stx with overrunCount := s.stx.overrunCount + 1 }
               outputs := .event 2 info :: s.outputs } := rfl

/-- `CAP_NO_REPLY` ends a negotiation and reports. -/
theorem takeEvent_capNoReply (info : SizeWord) (s : State) :
    takeEvent .capNoReply info s =
      { s with xfer := if s.xfer.state = .negotiating then { s.xfer with state := .abortedNoReply } else s.xfer
               outputs := .event 3 info :: s.outputs } := by
  by_cases h : s.xfer.state = .negotiating <;>
    simp only [takeEvent, countEvent, endSession, eventCode, h, if_true, if_false] <;> rfl

/-- `CAP_INSUFFICIENT` ends a negotiation and reports. -/
theorem takeEvent_capInsufficient (info : SizeWord) (s : State) :
    takeEvent .capInsufficient info s =
      { s with
        xfer := if s.xfer.state = .negotiating then { s.xfer with state := .abortedInsufficientSpace } else s.xfer
        outputs := .event 4 info :: s.outputs } := by
  by_cases h : s.xfer.state = .negotiating <;>
    simp only [takeEvent, countEvent, endSession, eventCode, h, if_true, if_false] <;> rfl

/-- `ACK_TIMEOUT` ends a wait for an acknowledgment and reports. -/
theorem takeEvent_ackTimeout (info : SizeWord) (s : State) :
    takeEvent .ackTimeout info s =
      { s with xfer := if s.xfer.state = .awaitingAck then { s.xfer with state := .abortedTimeout } else s.xfer
               outputs := .event 5 info :: s.outputs } := by
  by_cases h : s.xfer.state = .awaitingAck <;>
    simp only [takeEvent, countEvent, endSession, eventCode, h, if_true, if_false] <;> rfl

/-- `MALFORMED_REPLY` counts and reports. -/
theorem takeEvent_malformedReply (info : SizeWord) (s : State) :
    takeEvent .malformedReply info s =
      { s with lsn := { s.lsn with malformedCount := s.lsn.malformedCount + 1 }
               outputs := .event 6 info :: s.outputs } := rfl

/-- `CANCELLED` for the streaming session. -/
theorem takeEvent_cancelled_stream (s : State) :
    takeEvent .cancelled 0 s =
      if s.stx.state = .idle then { s with outputs := .event 7 0 :: s.outputs }
      else { s with pkt := { s.pkt with out := none, pos := 0, payload := [] }
                    stx := { s.stx with eof := false, state := .idle }
                    outputs := .event 7 0 :: s.outputs } := by
  by_cases h : s.stx.state = .idle <;>
    simp only [takeEvent, countEvent, endSession, eventCode, h, if_true, if_false] <;> rfl

/-- `CANCELLED` for the transfer session. -/
theorem takeEvent_cancelled_transfer (s : State) :
    takeEvent .cancelled 1 s =
      { s with
        xfer := if xferActive s.xfer.state then { s.xfer with state := .abortedCancelled } else s.xfer
        outputs := .event 7 1 :: s.outputs } := by
  by_cases h : xferActive s.xfer.state = true <;>
    simp only [takeEvent, countEvent, endSession, eventCode, h, if_true, if_false, Bool.false_eq_true,
      show ¬(1 : SizeWord) = 0 by decide] <;> rfl

/-- `DEC_REJECT` counts and reports. -/
theorem takeEvent_decReject (info : SizeWord) (s : State) :
    takeEvent .decReject info s =
      { s with decRejects := s.decRejects + 1, outputs := .event 8 info :: s.outputs } := rfl

/-- `FRAME_PUSH` changes `ENC` and the packetizer alone. -/
theorem framePush_eq (x : Sample) (s : State) :
    framePush x s =
      { s with
        enc := codecAfter s.enc (codecCode s.enc x)
        pkt :=
          { s.pkt with
            hdrPredictor := if s.pkt.pos = 0 then s.enc.predictor else s.pkt.hdrPredictor
            hdrStepIndex := if s.pkt.pos = 0 then s.enc.stepIndex else s.pkt.hdrStepIndex
            pos := s.pkt.pos + 1
            payload := Mem.write s.pkt.payload (s.pkt.pos >>> 1)
              (putNibble s.pkt.pos (codecCode s.enc x) (Mem.read s.pkt.payload (s.pkt.pos >>> 1))) } } := by
  unfold framePush snapshot
  split <;> rfl

/-- A run of pushes changes `ENC` and the packetizer alone. -/
theorem framePushAll_frame (xs : List Sample) (s : State) :
    framePushAll xs s = { s with enc := (framePushAll xs s).enc, pkt := (framePushAll xs s).pkt } := by
  induction xs generalizing s with
  | nil => rfl
  | cons x xs ih =>
    simp only [framePushAll]
    rw [ih (framePush x s), framePush_eq]

theorem framePushAll_pos (xs : List Sample) (s : State) :
    (framePushAll xs s).pkt.pos = s.pkt.pos + xs.length := by
  induction xs generalizing s with
  | nil => rfl
  | cons x xs ih =>
    simp only [framePushAll, ih, framePush_eq, List.length_cons]
    omega

theorem framePushAll_append (xs ys : List Sample) (s : State) :
    framePushAll (xs ++ ys) s = framePushAll ys (framePushAll xs s) := by
  induction xs generalizing s with
  | nil => rfl
  | cons x xs ih => exact ih _

/-- A run of pushes leaves the closed packet and the sequence number alone. -/
theorem framePushAll_seq (xs : List Sample) (s : State) :
    (framePushAll xs s).pkt.seq = s.pkt.seq ∧ (framePushAll xs s).pkt.out = s.pkt.out := by
  induction xs generalizing s with
  | nil => exact ⟨rfl, rfl⟩
  | cons x xs ih => simpa [framePushAll, framePush_eq] using ih (framePush x s)

/-- `FRAME_CLOSE` changes the packetizer alone. -/
theorem frameClose_eq (s : State) :
    frameClose s =
      { s with pkt := { s.pkt with out := some (framePacket s), seq := s.pkt.seq + 1, pos := 0, payload := [] } } :=
  rfl

/-- What the listener does with a body on `T_RESP`. -/
theorem listenFree_eq (body : List Byte) (s : State) :
    listenFree body s =
      match parseFree body with
      | some reply => { s with lsn := { s.lsn with capReply := some reply } }
      | none => { s with lsn := { s.lsn with malformedCount := s.lsn.malformedCount + 1 }
                         outputs := .event 6 0 :: s.outputs } := by
  cases h : parseFree body <;> simp only [listenFree, h] <;> rfl

/-- What the listener does with a body on `T_ACK`. -/
theorem listenAck_eq (body : List Byte) (s : State) :
    listenAck body s =
      match parseAck body with
      | some index => { s with lsn := { s.lsn with lastAck := some index } }
      | none => { s with lsn := { s.lsn with malformedCount := s.lsn.malformedCount + 1 }
                         outputs := .event 6 1 :: s.outputs } := by
  cases h : parseAck body <;> simp only [listenAck, h] <;> rfl

/-- The latch of `STREAM_START` accepts only a configuration with every register written and legal. -/
theorem latchStream_ok {c : CfgRegs} {r : StxCfg} (h : latchStream c = .ok r) :
    0 < r.frameSamples ∧ 0 < r.paceDen ∧
      c.destAddr = some r.destAddr ∧ c.destPort = some r.destPort ∧ c.frameMs = some r.frameMs ∧
      c.paceNum = some r.paceNum ∧ c.paceDen = some r.paceDen := by
  unfold latchStream at h
  split at h
  · split at h
    · simp at h
    · simp only [Except.ok.injEq] at h
      subst h
      simp_all
      omega
  · simp at h

/-- The latch of `XFER_START` accepts only a configuration with every register written and legal. -/
theorem latchXfer_ok {now size : Nat} {c : CfgRegs} {r : XferCfg} (h : latchXfer now size c = .ok r) :
    0 < r.chunkSize ∧ r.idx0 ≤ 1 ∧ now + r.capTimeout < 2 ^ 64 ∧
      ¬(chunkCount size r.chunkSize = 2 ^ 32 - 1 ∧ r.idx0 = 1) ∧
      c.chunkSize = some r.chunkSize ∧ c.ackTimeout = some r.ackTimeout ∧
      c.capTimeout = some r.capTimeout ∧ c.idx0 = some r.idx0 := by
  unfold latchXfer at h
  split at h
  · split at h
    · simp at h
    · split at h
      · simp at h
      · split at h
        · simp at h
        · rename_i hc ht hi
          simp only [Except.ok.injEq] at h
          subst h
          simp only [fitsTime, Config.wTime, Config.wSize, Bool.not_eq_true',
            Bool.not_eq_false] at ht hi
          simp only [not_or, Nat.not_lt] at hc
          exact ⟨Nat.pos_of_ne_zero hc.1, hc.2, of_decide_eq_true ht, hi, ‹_›, ‹_›, ‹_›, ‹_›⟩
  · simp at h

/-- The sample port takes exactly what the source may supply. -/
theorem takeSample_eq_some {m : Mode} {x : Sample} {p q : Playback} :
    takeSample m x p = some q ↔ Supplies m x p q := by
  obtain ⟨pass, replay⟩ := p
  cases m with
  | live => simp [takeSample, Supplies, eq_comm]
  | file =>
    cases replay with
    | none => simp [takeSample, Supplies, eq_comm]
    | some ys =>
      cases ys with
      | nil => simp [takeSample, Supplies]
      | cons y ys =>
        by_cases h : x = y
        · subst h
          simp [takeSample, Supplies, eq_comm]
        · simp [takeSample, Supplies, h, Ne.symm h]

theorem passMayEnd_iff {m : Mode} {p : Playback} : passMayEnd m p = true ↔ MayEnd m p := by
  obtain ⟨pass, replay⟩ := p
  cases m <;> rcases replay with _ | _ | _ <;> simp [passMayEnd, MayEnd]

/-- What the latch of `STREAM_START` accepts is a legal configuration. -/
theorem latchStream_legal {c : CfgRegs} {r : StxCfg} (h : latchStream c = .ok r) : StreamConfigLegal c := by
  unfold latchStream at h
  split at h
  · split at h
    · simp at h
    · simp_all [StreamConfigLegal, frameSamplesOf]
  · simp at h

/-- What the latch of `XFER_START` accepts is a legal configuration. -/
theorem latchXfer_legal {now size : Nat} {c : CfgRegs} {r : XferCfg} (h : latchXfer now size c = .ok r) :
    XferConfigLegal c now size := by
  obtain ⟨hc, hz, ht, hi, h1, h2, h3, h4⟩ := latchXfer_ok h
  exact ⟨by simp [h2], r.chunkSize, r.capTimeout, r.idx0, h1, h3, h4, Nat.pos_iff_ne_zero.1 hc, hz, ht, hi⟩

/-- A file of `size` bytes has at most `size` chunks, and the last one starts inside it
(45_transfer.md R203). -/
theorem chunkCount_bounds {size chunkSize : Nat} (h : 0 < chunkSize) :
    chunkCount size chunkSize ≤ size ∧ size ≤ chunkCount size chunkSize * chunkSize ∧
      ∀ j, j < chunkCount size chunkSize → j * chunkSize < size := by
  unfold chunkCount
  have h1 := Nat.div_add_mod (size + chunkSize - 1) chunkSize
  have h2 := Nat.mod_lt (size + chunkSize - 1) h
  have h3 : (size + chunkSize - 1) / chunkSize * chunkSize = chunkSize * ((size + chunkSize - 1) / chunkSize) :=
    Nat.mul_comm _ _
  refine ⟨?_, by omega, fun j hj => ?_⟩
  · rcases Nat.eq_zero_or_pos size with h0 | h0
    · subst h0
      rw [Nat.div_eq_of_lt (by omega)]
    · obtain ⟨c, rfl⟩ : ∃ c, chunkSize = c + 1 := ⟨chunkSize - 1, by omega⟩
      refine Nat.div_le_of_le_mul ?_
      have : (c + 1) * size = c * size + size := Nat.succ_mul c size
      have : c * 1 ≤ c * size := Nat.mul_le_mul_left c h0
      omega
  · have h4 : (j + 1) * chunkSize ≤ (size + chunkSize - 1) / chunkSize * chunkSize := Nat.mul_le_mul_right _ hj
    have h5 : (j + 1) * chunkSize = j * chunkSize + chunkSize := Nat.succ_mul j chunkSize
    omega

end Sys2Proof.Machine
end

