-- ==== Sys2Proof/Laws/PerInstr.lean ====
section
/-! SUPPORT. Statements about every operation as syntax, one lemma per constructor of `Instr`. -/

namespace Sys2Proof.Laws.EncodedSource

/-- The transaction an operation is encoded as stands at the operation's own source. -/
def Statement (i : Instr) : Prop := (encode i).source = i.source

theorem code0x0 : Statement .code0x0 := rfl
theorem code0x1 : Statement .code0x1 := rfl
theorem code0x2 : Statement .code0x2 := rfl
theorem code0x3 : Statement .code0x3 := rfl
theorem code0x4 : Statement .code0x4 := rfl
theorem code0x5 : Statement .code0x5 := rfl
theorem code0x6 : Statement .code0x6 := rfl
theorem code0x7 : Statement .code0x7 := rfl
theorem code0x8 : Statement .code0x8 := rfl
theorem code0x9 : Statement .code0x9 := rfl
theorem code0xA : Statement .code0xA := rfl
theorem code0xB : Statement .code0xB := rfl
theorem code0xC : Statement .code0xC := rfl
theorem code0xD : Statement .code0xD := rfl
theorem code0xE : Statement .code0xE := rfl
theorem code0xF : Statement .code0xF := rfl
theorem payloadByte : ∀ h l, Statement (.payloadByte h l) := by intros; rfl
theorem packet : ∀ seq predictor stepIndex payload, Statement (.packet seq predictor stepIndex payload) := by intros; rfl
theorem req : Statement .req := rfl
theorem free : ∀ freeBytes residentBytes, Statement (.free freeBytes residentBytes) := by intros; rfl
theorem start : ∀ fileSize, Statement (.start fileSize) := by intros; rfl
theorem chunk : ∀ index total data, Statement (.chunk index total data) := by intros; rfl
theorem endMsg : Statement .endMsg := rfl
theorem ack : ∀ index, Statement (.ack index) := by intros; rfl
theorem cmdReserved : Statement .cmdReserved := rfl
theorem streamStart : ∀ mode loop, Statement (.streamStart mode loop) := by intros; rfl
theorem xferStart : ∀ size, Statement (.xferStart size) := by intros; rfl
theorem cancel : Statement .cancel := rfl
theorem eventTxSendFail : ∀ info, Statement (.eventTxSendFail info) := by intros; rfl
theorem eventCaptureOverrun : ∀ info, Statement (.eventCaptureOverrun info) := by intros; rfl
theorem eventCapNoReply : ∀ info, Statement (.eventCapNoReply info) := by intros; rfl
theorem eventCapInsufficient : ∀ info, Statement (.eventCapInsufficient info) := by intros; rfl
theorem eventAckTimeout : ∀ info, Statement (.eventAckTimeout info) := by intros; rfl
theorem eventMalformedReply : ∀ info, Statement (.eventMalformedReply info) := by intros; rfl
theorem eventCancelled : ∀ info, Statement (.eventCancelled info) := by intros; rfl
theorem eventDecReject : ∀ info, Statement (.eventDecReject info) := by intros; rfl
theorem recon : ∀ predictor stepIndex code, Statement (.recon predictor stepIndex code) := by intros; rfl
theorem encSample : ∀ x, Statement (.encSample x) := by intros; rfl
theorem decSample : ∀ code, Statement (.decSample code) := by intros; rfl
theorem encLoad : ∀ predictor stepIndex, Statement (.encLoad predictor stepIndex) := by intros; rfl
theorem decLoad : ∀ predictor stepIndex, Statement (.decLoad predictor stepIndex) := by intros; rfl
theorem framePush : ∀ x, Statement (.framePush x) := by intros; rfl
theorem framePad : Statement .framePad := rfl
theorem frameClose : Statement .frameClose := rfl
theorem encFrame : ∀ xs, Statement (.encFrame xs) := by intros; rfl
theorem pktDecode : ∀ bytes, Statement (.pktDecode bytes) := by intros; rfl
theorem paceAnchor : Statement .paceAnchor := rfl
theorem paceMark : Statement .paceMark := rfl
theorem paceGate : Statement .paceGate := rfl
theorem tick : ∀ t, Statement (.tick t) := by intros; rfl
theorem pcmIn : ∀ x, Statement (.pcmIn x) := by intros; rfl
theorem pcmEof : Statement .pcmEof := rfl
theorem loopRestart : Statement .loopRestart := rfl
theorem sendFrame : ∀ result, Statement (.sendFrame result) := by intros; rfl
theorem pcmOverrun : Statement .pcmOverrun := rfl
theorem cfgWrite : ∀ name value, Statement (.cfgWrite name value) := by intros; rfl
theorem msgInFree : ∀ body, Statement (.msgInFree body) := by intros; rfl
theorem capDecide : Statement .capDecide := rfl
theorem capTimeout : Statement .capTimeout := rfl
theorem xferSendChunk : Statement .xferSendChunk := rfl
theorem msgInAck : ∀ body, Statement (.msgInAck body) := by intros; rfl
theorem xferAckMatch : Statement .xferAckMatch := rfl
theorem xferAckTimeout : Statement .xferAckTimeout := rfl
theorem reset : Statement .reset := rfl

end Sys2Proof.Laws.EncodedSource
end

