-- ==== Sys2Proof/Laws/Schedule.lean ====
section
/-! SUPPORT. What the priority order selects (60_exceptions.md R242): each selection function said once. -/

namespace Sys2Proof.Machine

/-- A selected arrival of a class is the first of that class before the next `TICK`, and it alone leaves the
inbox. -/
theorem takeClass_eq {k : Nat} (hk : k ≠ 7) (l : List Arrival) :
    takeClass k l =
      ((l.takeWhile fun a => arrivalClass a != 7).find? fun a => arrivalClass a == k).map
        fun a => (a, l.eraseP fun a => arrivalClass a == k) := by
  induction l with
  | nil => rfl
  | cons a l ih =>
    by_cases h1 : arrivalClass a = k
    · simp [takeClass, h1, hk]
    · by_cases h2 : arrivalClass a = 7
      · simp [takeClass, h2, Ne.symm hk]
      · simp only [takeClass, h1, h2, if_false, ih]
        simp only [List.takeWhile_cons, List.eraseP_cons, bne_iff_ne, ne_eq, h2, not_false_eq_true,
          if_true, List.find?_cons, beq_eq_false_iff_ne.2 h1]
        cases (l.takeWhile fun a => arrivalClass a != 7).find? fun a => arrivalClass a == k <;> simp

/-- No arrival of a class is selected exactly when none is offered before the next `TICK`. -/
theorem takeClass_none {k : Nat} (hk : k ≠ 7) (l : List Arrival) :
    takeClass k l = none ↔ ∀ a ∈ l.takeWhile (fun a => arrivalClass a != 7), arrivalClass a ≠ k := by
  induction l with
  | nil => simp [takeClass]
  | cons a l ih =>
    by_cases h1 : arrivalClass a = k
    · simp [takeClass, h1, hk]
    · by_cases h2 : arrivalClass a = 7
      · simp [takeClass, h2, Ne.symm hk]
      · simp only [takeClass, h1, h2, if_false]
        simp [h2, h1, ← ih]
        split <;> simp_all

/-- No command is selected exactly when only messages and what comes below them are offered now. -/
theorem takeCommand_none (l : List Arrival) :
    takeCommand l = none ↔ ∀ a ∈ l.takeWhile (fun a => arrivalClass a != 7), 4 ≤ arrivalClass a := by
  have h0 (a : Arrival) : 1 ≤ arrivalClass a := by
    cases a <;> simp only [arrivalClass] <;> try omega
    split <;> omega
  have h : takeCommand l = none ↔ takeClass 1 l = none ∧ takeClass 2 l = none ∧ takeClass 3 l = none := by
    unfold takeCommand
    cases takeClass 1 l <;> cases takeClass 2 l <;> simp
  rw [h, takeClass_none (by decide), takeClass_none (by decide), takeClass_none (by decide)]
  constructor
  · rintro ⟨h1, h2, h3⟩ a ha
    have := h0 a
    have := h1 a ha
    have := h2 a ha
    have := h3 a ha
    omega
  · intro h
    refine ⟨fun a ha => ?_, fun a ha => ?_, fun a ha => ?_⟩ <;> have := h a ha <;> omega

/-- With an issued transaction at the head of the script, the step runs what it decodes to. -/
theorem select_script {s : State} {t : Transaction} {rest : List Transaction} {i : Instr}
    (h : s.script = t :: rest) (hd : decode t = .ok i) : select s = .run i (s.withScript rest) := by
  simp [select, h, hd]

theorem select_hardware {s : State} (h : s.script = []) : select s = schedule s := by
  simp [select, h]

/-- An internal step of the transfer side is selected only when its guard holds. -/
theorem transferStep_some {s : State} {i : Instr} (h : transferStep s = some i) :
    (i = .xferAckMatch ∧ ackMatchEnabled s = true) ∨ (i = .xferAckTimeout ∧ ackTimeoutEnabled s = true) ∨
      (i = .capDecide ∧ capDecideEnabled s = true) ∨ (i = .capTimeout ∧ capTimeoutEnabled s = true) ∨
      (i = .xferSendChunk ∧ sendChunkEnabled s = true) := by
  unfold transferStep at h
  split at h
  · simp_all
  · split at h
    · simp_all
    · split at h
      · simp_all
      · split at h
        · simp_all
        · split at h <;> simp_all

/-- An internal step of the streaming side is selected only when its guard holds. -/
theorem streamStep_some {s s' : State} {i : Instr} (h : streamStep s = some (i, s')) :
    (i = .sendFrame (portResult s) ∧ s' = s.withSends (s.sends + 1) ∧ sendFrameEnabled s = true) ∨
      (i = .loopRestart ∧ s' = s ∧ loopRestartEnabled s = true) := by
  unfold streamStep at h
  split at h
  · simp_all
  · split at h <;> simp_all

end Sys2Proof.Machine
end

