-- ==== Sys2Proof/Tests/Slice0.lean ====
section
/-! SUPPORT. Our own tests: ill-formed terms refused, words written out from the encodings, one step of each
operation with the values of 95_test_vectors.md or of the rule's own example, and, for every statement with
hypotheses, a state that meets them. -/

namespace Sys2Proof.Tests

-- One theorem at a time: tests that wait on one another hold a thread, and its stack, each.
set_option Elab.async false

open Sys2Proof.Machine

/-! ### Helpers -/

/-- What a reader makes of the next state, if there is one. -/
def got {α : Type} (f : State → α) : Answer → Option α
  | .next t => some (f t)
  | .fault _ => none
  | .refused _ => none

/-- There is a next state with a property. -/
def holds (p : State → Bool) : Answer → Bool
  | .next t => p t
  | .fault _ => false
  | .refused _ => false

/-- The reason of a fault. -/
def faultOf : Answer → Option Fault
  | .next _ => none
  | .fault f => some f
  | .refused _ => none

/-- The reason of a refusal. -/
def refusalOf : Answer → Option Refusal
  | .next _ => none
  | .fault _ => none
  | .refused r => some r

theorem exists_next {a : Answer} {p : State → Bool} (h : holds p a = true) :
    ∃ t, a = .next t ∧ p t = true := by
  cases a with
  | next t => exact ⟨t, rfl, h⟩
  | fault _ => simp [holds] at h
  | refused _ => simp [holds] at h

/-- The reset state with a decoder state. -/
def dec0 (p : Sample) (i : StepIndex) : State := { State.reset with dec := { predictor := p, stepIndex := i } }

/-- The reset state with an encoder state. -/
def enc0 (p : Sample) (i : StepIndex) : State := { State.reset with enc := { predictor := p, stepIndex := i } }

/-- A configuration with every register written, at a given sample rate and frame duration. -/
def regs (rate ms : Nat) : CfgRegs where
  destAddr := some 1
  destPort := some 2
  sampleRate := some rate
  channels := some 1
  frameMs := some ms
  chunkSize := some 4
  ackTimeout := some 5000000
  capTimeout := some 19000000
  paceNum := some 17
  paceDen := some 20
  idx0 := some 0

/-- The reset state with the registers written. -/
def configured (rate ms : Nat) : State := { State.reset with cfg := regs rate ms }

/-- A streaming session at the reference pace. -/
def streaming (st : StxState) (mode : Mode) (frameSamples pos : Nat) : State :=
  { State.reset with
    stx := { state := st, mode := mode, loop := false, eof := false, txFailCount := 0, overrunCount := 0
             cfg := { frameSamples := frameSamples, frameMs := 60, paceNum := 17, paceDen := 20
                      destAddr := 1, destPort := 2 } }
    pkt := { State.reset.pkt with pos := pos } }

/-- The session with a packet that waits. -/
def waiting (mode : Mode) : State :=
  { streaming .ready mode 1 0 with
    pkt := { State.reset.pkt with seq := 8, out := some [1, 2, 3] } }

/-- A transfer session over the bytes 0 to 9, chunks of 4, as in the example of 45_transfer.md R205. -/
def transferring (st : XferState) (idx : Nat) : State :=
  ({ State.reset with
    xfer := { state := st, idx := idx, total := 3, fileSize := 10, deadline := 100, lastAcked := none
              cfg := { chunkSize := 4, ackTimeout := 50, capTimeout := 70, idx0 := 0 } } } : State).loadFile
    [0, 1, 2, 3, 4, 5, 6, 7, 8, 9]

/-! ### Well-formedness: each check refuses an ill-formed term -/

theorem test_wellFormed_stepIndex :
    (Instr.packet 0 0 89 []).wellFormed = false ∧ (Instr.recon 0 89 0).wellFormed = false ∧
    (Instr.encLoad 0 89).wellFormed = false ∧ (Instr.decLoad 0 89).wellFormed = false ∧
    (Instr.encLoad 0 88).wellFormed = true := by decide

theorem test_wellFormed_numbers :
    (Instr.free (2 ^ 32) 0).wellFormed = false ∧ (Instr.free 0 (2 ^ 32)).wellFormed = false ∧
    (Instr.start (2 ^ 32)).wellFormed = false ∧ (Instr.ack (2 ^ 32)).wellFormed = false ∧
    (Instr.chunk (2 ^ 32) 0 [1]).wellFormed = false ∧ (Instr.chunk 0 (2 ^ 32) [1]).wellFormed = false ∧
    (Instr.ack (2 ^ 32 - 1)).wellFormed = true := by decide

theorem test_wellFormed_shapes :
    (Instr.chunk 0 1 []).wellFormed = false ∧ (Instr.encFrame []).wellFormed = false ∧
    (Instr.eventCaptureOverrun 1).wellFormed = false ∧ (Instr.eventCapNoReply 1).wellFormed = false ∧
    (Instr.eventCapInsufficient 1).wellFormed = false ∧ (Instr.eventMalformedReply 2).wellFormed = false ∧
    (Instr.eventCancelled 2).wellFormed = false := by decide

/-! ### Decoding: words written out from the encodings -/

/-- 30_encoding.md R61. -/
theorem test_decode_codes :
    decode ⟨.n4, [0x00]⟩ = .ok .code0x0 ∧ decode ⟨.n4, [0x01]⟩ = .ok .code0x1 ∧
    decode ⟨.n4, [0x02]⟩ = .ok .code0x2 ∧ decode ⟨.n4, [0x03]⟩ = .ok .code0x3 ∧
    decode ⟨.n4, [0x04]⟩ = .ok .code0x4 ∧ decode ⟨.n4, [0x05]⟩ = .ok .code0x5 ∧
    decode ⟨.n4, [0x06]⟩ = .ok .code0x6 ∧ decode ⟨.n4, [0x07]⟩ = .ok .code0x7 ∧
    decode ⟨.n4, [0x08]⟩ = .ok .code0x8 ∧ decode ⟨.n4, [0x09]⟩ = .ok .code0x9 ∧
    decode ⟨.n4, [0x0A]⟩ = .ok .code0xA ∧ decode ⟨.n4, [0x0B]⟩ = .ok .code0xB ∧
    decode ⟨.n4, [0x0C]⟩ = .ok .code0xC ∧ decode ⟨.n4, [0x0D]⟩ = .ok .code0xD ∧
    decode ⟨.n4, [0x0E]⟩ = .ok .code0xE ∧ decode ⟨.n4, [0x0F]⟩ = .ok .code0xF ∧
    decode ⟨.n4, [0x10]⟩ = .error .badNibble := by decide

/-- 30_encoding.md R62, R63, R73: high nibble first, big-endian header, two's complement. -/
theorem test_decode_payload_and_packet :
    decode ⟨.pb, [0xF7]⟩ = .ok (.payloadByte 0xF 0x7) ∧
    decode ⟨.pkt, [0x01, 0x02, 0x03, 0x04, 0xFF, 0xF5, 0x08, 0x7C]⟩
      = .ok (.packet 0x01020304 (-11) 8 [0x7C]) ∧
    decode ⟨.pkt, [0, 0, 0, 1, 0, 0x68, 0x59, 0x77]⟩
      = .ok (.pktDecode [0, 0, 0, 1, 0, 0x68, 0x59, 0x77]) ∧
    decode ⟨.pkt, [0, 0, 0, 1, 0, 0x68]⟩ = .ok (.pktDecode [0, 0, 0, 1, 0, 0x68]) := by decide

/-- 30_encoding.md R66: the token is open. -/
theorem test_decode_request : decode ⟨.msg .req, Config.reqToken⟩ = .ok .req := by
  simp [decode, decodeMsg]

/-- 30_encoding.md R67 to R71: `"FREE:400:700"`, `"START:1000"`, `"CHUNK:2:3:"` with two bytes, one of them a colon,
`"END"`, `"ACK:007"`. -/
theorem test_decode_messages :
    decode ⟨.msg .resp, [0x46, 0x52, 0x45, 0x45, 0x3A, 0x34, 0x30, 0x30, 0x3A, 0x37, 0x30, 0x30]⟩
      = .ok (.free 400 700) ∧
    decode ⟨.msg .data, [0x53, 0x54, 0x41, 0x52, 0x54, 0x3A, 0x31, 0x30, 0x30, 0x30]⟩ = .ok (.start 1000) ∧
    decode ⟨.msg .data, [0x43, 0x48, 0x55, 0x4E, 0x4B, 0x3A, 0x32, 0x3A, 0x33, 0x3A, 0x08, 0x3A]⟩
      = .ok (.chunk 2 3 [0x08, 0x3A]) ∧
    decode ⟨.msg .data, [0x45, 0x4E, 0x44]⟩ = .ok .endMsg ∧
    decode ⟨.msg .ack, [0x41, 0x43, 0x4B, 0x3A, 0x30, 0x30, 0x37]⟩ = .ok (.ack 7) ∧
    decode ⟨.msg .ack, [0x41, 0x43, 0x4B, 0x3A]⟩ = .ok (.msgInAck [0x41, 0x43, 0x4B, 0x3A]) ∧
    decode ⟨.msg .resp, []⟩ = .ok (.msgInFree []) ∧ decode ⟨.msg .data, [0x45]⟩ = .error .otherTopic := by decide +kernel

/-- 30_encoding.md R72: the code, then the argument; the ignored bits are ignored. -/
theorem test_decode_commands :
    decode ⟨.cmd, [0, 0xFF, 0, 0, 1]⟩ = .ok .cmdReserved ∧
    decode ⟨.cmd, [1, 0xFF, 0, 0, 1]⟩ = .ok (.streamStart .live false) ∧
    decode ⟨.cmd, [1, 0, 0, 0, 2]⟩ = .ok (.streamStart .file true) ∧
    decode ⟨.cmd, [2, 0x01, 0x02, 0x03, 0x04]⟩ = .ok (.xferStart 0x01020304) ∧
    decode ⟨.cmd, [3, 0, 0, 0, 9]⟩ = .ok .cancel ∧
    decode ⟨.cmd, [4, 0, 0, 0, 0]⟩ = .error .badCommand := by decide

/-- 60_exceptions.md R231. -/
theorem test_decode_events :
    decode ⟨.event, [1, 0, 0, 0, 7]⟩ = .ok (.eventTxSendFail 7) ∧
    decode ⟨.event, [2, 0, 0, 0, 0]⟩ = .ok (.eventCaptureOverrun 0) ∧
    decode ⟨.event, [3, 0, 0, 0, 0]⟩ = .ok (.eventCapNoReply 0) ∧
    decode ⟨.event, [4, 0, 0, 0, 0]⟩ = .ok (.eventCapInsufficient 0) ∧
    decode ⟨.event, [5, 0, 0, 1, 0]⟩ = .ok (.eventAckTimeout 256) ∧
    decode ⟨.event, [6, 0, 0, 0, 1]⟩ = .ok (.eventMalformedReply 1) ∧
    decode ⟨.event, [7, 0, 0, 0, 1]⟩ = .ok (.eventCancelled 1) ∧
    decode ⟨.event, [8, 0, 0, 0, 9]⟩ = .ok (.eventDecReject 9) ∧
    decode ⟨.event, [0, 0, 0, 0, 0]⟩ = .error .badEvent ∧
    decode ⟨.event, [9, 0, 0, 0, 0]⟩ = .error .badEvent := by decide

/-- The input ports (20_memory.md R45). -/
theorem test_decode_ports :
    decode ⟨.resetIn, []⟩ = .ok .reset ∧
    decode ⟨.cfg, [4, 0x36, 0x30]⟩ = .ok (.cfgWrite .frameMs 60) ∧
    decode ⟨.msgIn .resp, [0x21]⟩ = .ok (.msgInFree [0x21]) ∧
    decode ⟨.msgIn .ack, []⟩ = .ok (.msgInAck []) ∧
    decode ⟨.msgIn .other, []⟩ = .error .otherTopic ∧
    decode ⟨.pcmSample, [0xFF, 0xFE]⟩ = .ok (.pcmIn (-2)) ∧
    decode ⟨.pcmEof, []⟩ = .ok .pcmEof ∧ decode ⟨.pcmOverrun, []⟩ = .ok .pcmOverrun ∧
    decode ⟨.dgramIn, [1, 2]⟩ = .ok (.pktDecode [1, 2]) ∧
    decode ⟨.time, [0, 0, 0, 1, 0, 0, 0, 2]⟩ = .ok (.tick 0x100000002) := by decide +kernel

/-- The operations named directly (log 12). -/
theorem test_decode_calls :
    decode ⟨.call .recon, [0x03, 0xE8, 40, 4]⟩ = .ok (.recon 1000 40 4) ∧
    decode ⟨.call .encSample, [0x05, 0x39]⟩ = .ok (.encSample 1337) ∧
    decode ⟨.call .decSample, [0x0E]⟩ = .ok (.decSample 0xE) ∧
    decode ⟨.call .encLoad, [0xFF, 0xFF, 88]⟩ = .ok (.encLoad (-1) 88) ∧
    decode ⟨.call .decLoad, [0x02, 0x15, 40]⟩ = .ok (.decLoad 533 40) ∧
    decode ⟨.call .framePush, [0, 100]⟩ = .ok (.framePush 100) ∧
    decode ⟨.call .framePad, []⟩ = .ok .framePad ∧ decode ⟨.call .frameClose, []⟩ = .ok .frameClose ∧
    decode ⟨.call .encFrame, [0, 1, 0xFF, 0xFF]⟩ = .ok (.encFrame [1, -1]) ∧
    decode ⟨.call .paceAnchor, []⟩ = .ok .paceAnchor ∧ decode ⟨.call .paceMark, []⟩ = .ok .paceMark ∧
    decode ⟨.call .paceGate, []⟩ = .ok .paceGate ∧ decode ⟨.call .loopRestart, []⟩ = .ok .loopRestart ∧
    decode ⟨.call .sendFrame, [0]⟩ = .ok (.sendFrame .ok) ∧
    decode ⟨.call .sendFrame, [1]⟩ = .ok (.sendFrame .fail) ∧
    decode ⟨.call .capDecide, []⟩ = .ok .capDecide ∧ decode ⟨.call .capTimeout, []⟩ = .ok .capTimeout ∧
    decode ⟨.call .xferSendChunk, []⟩ = .ok .xferSendChunk ∧
    decode ⟨.call .xferAckMatch, []⟩ = .ok .xferAckMatch ∧
    decode ⟨.call .xferAckTimeout, []⟩ = .ok .xferAckTimeout := by decide +kernel

/-- A word of the table is issued and is the first operation after reset. -/
theorem test_table_words :
    decodeTableWord 8 0x4 = some .code0x4 ∧ decodeTableWord 8 0xC8 = some (.payloadByte 0xC 0x8) ∧
    got (fun t => t.dec) (step (State.reset.withFetchWord 8 0x4))
      = some { predictor := 7, stepIndex := 2 } := by decide +kernel

/-! ### One step of each operation -/

/-- 95_test_vectors.md 2.2, state (1000, 40): the state after each code. -/
theorem test_codes :
    let run := fun i => got (fun t => (t.dec.predictor.toInt, t.dec.stepIndex.toNat)) (exec i (dec0 1000 40))
    run .code0x0 = some (1042, 39) ∧ run .code0x1 = some (1126, 39) ∧ run .code0x2 = some (1210, 39) ∧
    run .code0x3 = some (1294, 39) ∧ run .code0x4 = some (1379, 42) ∧ run .code0x5 = some (1463, 44) ∧
    run .code0x6 = some (1547, 46) ∧ run .code0x7 = some (1631, 48) ∧ run .code0x8 = some (958, 39) ∧
    run .code0x9 = some (874, 39) ∧ run .code0xA = some (790, 39) ∧ run .code0xB = some (706, 39) ∧
    run .code0xC = some (621, 42) ∧ run .code0xD = some (537, 44) ∧ run .code0xE = some (453, 46) ∧
    run .code0xF = some (369, 48) := by decide +kernel

/-- 95_test_vectors.md 2.2, state (0, 88): the clamps. -/
theorem test_codes_clamp :
    got (fun t => (t.dec.predictor.toInt, t.dec.stepIndex.toNat)) (exec .code0x7 (dec0 0 88)) = some (32767, 88) ∧
    got (fun t => (t.dec.predictor.toInt, t.dec.stepIndex.toNat)) (exec .code0xF (dec0 0 88)) = some (-32768, 88) ∧
    got (fun t => (t.dec.predictor.toInt, t.dec.stepIndex.toNat)) (exec .code0x3 (dec0 0 0)) = some (4, 0) := by
  decide +kernel

/-- 95_test_vectors.md 2.4, first row: 11 then 41. -/
theorem test_payloadByte :
    got (fun t => t.ret) (exec (.payloadByte 7 7) (dec0 0 0)) = some (.samples [11, 41]) := by decide +kernel

/-- 95_test_vectors.md 2.4, first row. -/
theorem test_packet :
    got (fun t => (t.outputs, t.dec)) (exec (.packet 0 0 0 [0x77, 0xF7]) (configured 400 10))
      = some ([.pcmOut 0 [11, 41, -22, 114]], { predictor := 114, stepIndex := 32 }) := by decide +kernel

/-- 95_test_vectors.md 2.4: a pad nibble that is not 0 is not decoded; index 89 is rejected with its length. -/
theorem test_pktDecode :
    got (fun t => t.outputs) (exec (.pktDecode [0, 0, 0, 1, 0, 0x68, 0x18, 0x77, 0xEF]) (configured 300 10))
      = some [.pcmOut 1 [240, 533, -14]] ∧
    got (fun t => (t.outputs, t.decRejects, t.dec))
      (exec (.pktDecode [0, 0, 0, 1, 0, 0x68, 0x59, 0x77, 0xE0]) (configured 300 10))
      = some ([.event 8 9], 1, { predictor := 0, stepIndex := 0 }) := by decide +kernel

theorem test_outbound :
    got (fun t => t.outputs) (exec .req State.reset) = some [.msg .req Config.reqToken] ∧
    got (fun t => t.outputs) (exec (.start 0) State.reset)
      = some [.msg .data [0x53, 0x54, 0x41, 0x52, 0x54, 0x3A, 0x30]] ∧
    got (fun t => t.outputs) (exec (.chunk 2 3 [8, 9]) State.reset)
      = some [.msg .data [0x43, 0x48, 0x55, 0x4E, 0x4B, 0x3A, 0x32, 0x3A, 0x33, 0x3A, 8, 9]] ∧
    got (fun t => t.outputs) (exec .endMsg State.reset) = some [.msg .data [0x45, 0x4E, 0x44]] :=
  ⟨rfl, by decide, by decide, by decide⟩

theorem test_heard :
    got (fun t => t.lsn.capReply) (exec (.free 400 700) State.reset) = some (some (400, 700)) ∧
    got (fun t => t.lsn.lastAck) (exec (.ack 2) State.reset) = some (some 2) := by decide +kernel

/-- 44_capacity.md R187, 45_transfer.md R206: `"FREE:400:0:7"` and `"ACK:1:2"` are malformed, `"ACK:007"` means 7. -/
theorem test_listener :
    got (fun t => (t.lsn.capReply, t.lsn.malformedCount, t.outputs))
      (exec (.msgInFree [0x46, 0x52, 0x45, 0x45, 0x3A, 0x34, 0x3A, 0x30, 0x3A, 0x37]) State.reset)
      = some (none, 1, [.event 6 0]) ∧
    got (fun t => (t.lsn.lastAck, t.outputs)) (exec (.msgInAck [0x41, 0x43, 0x4B, 0x3A, 0x30, 0x30, 0x37]) State.reset)
      = some (some 7, []) ∧
    got (fun t => (t.lsn.lastAck, t.outputs)) (exec (.msgInAck [0x41, 0x43, 0x4B, 0x3A, 0x31, 0x3A, 0x32]) State.reset)
      = some (none, [.event 6 1]) := by decide +kernel

/-- 43_transport.md R167: 16000 Hz and 60 ms give 960 samples; ignored in a session; unwritten registers refused. -/
theorem test_streamStart :
    got (fun t => (t.stx.state, t.stx.cfg.frameSamples, t.pacer.targetTime))
      (exec (.streamStart .file false) { configured 16000 60 with now := 1000000 })
      = some (.filling, 960, 1000000) ∧
    got (fun t => t.stx.mode) (exec (.streamStart .live false) (streaming .loopWait .file 4 0)) = some .file ∧
    refusalOf (exec (.streamStart .file false) State.reset) = some .streamConfigUnwritten := by decide +kernel

/-- 45_transfer.md R202: size 10 with chunks of 4 is 3 chunks. -/
theorem test_xferStart :
    got (fun t => (t.xfer.state, t.xfer.total, t.xfer.idx, t.xfer.deadline))
      (exec (.xferStart 10) (configured 1 1)) = some (.negotiating, 3, 0, 19000000) ∧
    refusalOf (exec (.xferStart 10) State.reset) = some .xferConfigUnwritten := by decide +kernel

theorem test_cancel :
    got (fun t => (t.stx.state, t.pkt.out, t.outputs)) (exec .cancel (waiting .file))
      = some (.idle, none, [.event 7 0]) ∧
    got (fun t => (t.xfer.state, t.outputs)) (exec .cancel (transferring .awaitingAck 1))
      = some (.abortedCancelled, [.event 7 1]) := by decide +kernel

theorem test_events :
    got (fun t => t.stx.txFailCount) (exec (.eventTxSendFail 7) State.reset) = some 1 ∧
    got (fun t => t.stx.overrunCount) (exec (.eventCaptureOverrun 0) State.reset) = some 1 ∧
    got (fun t => t.xfer.state) (exec (.eventCapNoReply 0) (transferring .negotiating 0)) = some .abortedNoReply ∧
    got (fun t => t.xfer.state) (exec (.eventCapInsufficient 0) (transferring .negotiating 0))
      = some .abortedInsufficientSpace ∧
    got (fun t => t.xfer.state) (exec (.eventAckTimeout 1) (transferring .awaitingAck 1)) = some .abortedTimeout ∧
    got (fun t => t.lsn.malformedCount) (exec (.eventMalformedReply 1) State.reset) = some 1 ∧
    got (fun t => t.xfer.state) (exec (.eventCancelled 1) (transferring .sendingChunk 1)) = some .abortedCancelled ∧
    got (fun t => t.decRejects) (exec (.eventDecReject 3) State.reset) = some 1 := by decide +kernel

/-- 40_codec.md R94, R95, R112, R113: the rules' examples. -/
theorem test_codec :
    got (fun t => t.ret) (exec (.recon 1000 40 4) State.reset) = some (.recon 1379 42 379) ∧
    got (fun t => (t.ret, t.enc)) (exec (.encSample 1337) (enc0 1000 40))
      = some (.code 4, { predictor := 1379, stepIndex := 42 }) ∧
    got (fun t => t.ret) (exec (.decSample 0xE) (dec0 533 40)) = some (.sample (-14)) ∧
    got (fun t => t.enc.stepIndex) (exec (.encLoad 0 88) State.reset) = some 88 ∧
    refusalOf (exec (.decLoad 0 89) State.reset) = some .invalidCodecState := by decide +kernel

/-- 40_codec.md R119, 95_test_vectors.md 2.1: the corners. -/
theorem test_encSample_corners :
    got (fun t => (t.ret, t.enc)) (exec (.encSample (-32768)) (enc0 32767 88))
      = some (.code 0xF, { predictor := -28669, stepIndex := 88 }) ∧
    got (fun t => (t.ret, t.enc)) (exec (.encSample (-32768)) (enc0 (-32768) 88))
      = some (.code 0x0, { predictor := -28673, stepIndex := 87 }) ∧
    got (fun t => (t.ret, t.enc)) (exec (.encSample 11) State.reset)
      = some (.code 0x7, { predictor := 11, stepIndex := 8 }) := by decide +kernel

/-- 41_packetizer.md R133: the rule's example. -/
theorem test_framePush :
    got (fun t => (t.pkt.payload, t.pkt.pos, t.enc.stepIndex, t.pkt.hdrStepIndex))
      (exec (.framePush 100) (streaming .filling .file 4 0)) = some ([(0, 0x70)], 1, 8, 0) ∧
    faultOf (exec (.framePush 100) (streaming .filling .file 4 4)) = some (.notEnabled "FRAME_PUSH") := by
  decide +kernel

theorem test_framePad :
    got (fun t => t.pkt.pos) (exec .framePad (streaming .filling .file 5 2)) = some 5 ∧
    faultOf (exec .framePad (streaming .filling .file 5 0)) = some (.notEnabled "FRAME_PAD") := by decide +kernel

/-- 41_packetizer.md R136: the sequence number wraps. -/
theorem test_frameClose :
    got (fun t => (t.pkt.seq, t.pkt.out))
      (exec .frameClose { streaming .filling .file 1 1 with
        pkt := { State.reset.pkt with seq := 0xFFFFFFFF, pos := 1, payload := [(0, 0x70)] } })
      = some (0, some [0xFF, 0xFF, 0xFF, 0xFF, 0, 0, 0, 0x70]) := by decide +kernel

/-- 95_test_vectors.md 2.3: the first row, and the last (padding and a pad nibble). -/
theorem test_encFrame :
    got (fun t => t.pkt.out) (exec (.encFrame [100, 200, -300, 32767]) (streaming .idle .file 4 0))
      = some (some [0, 0, 0, 0, 0, 0, 0, 0x77, 0xF7]) ∧
    got (fun t => (t.pkt.out, t.enc))
      (exec (.encFrame [0, -1000])
        { streaming .idle .file 5 0 with enc := { predictor := 533, stepIndex := 40 } })
      = some (some [0, 0, 0, 0, 0x02, 0x15, 0x28, 0xEE, 0x30, 0x80], { predictor := -47, stepIndex := 49 }) := by
  decide +kernel

/-- 42_pacer.md R151, R153: the third mark of a pass at the reference values. -/
theorem test_pacer :
    got (fun t => t.pacer) (exec .paceAnchor { State.reset with now := 1000000 })
      = some { startTime := 1000000, framesSent := 0, targetTime := 1000000 } ∧
    got (fun t => t.pacer) (exec .paceMark { streaming .filling .file 4 0 with
        pacer := { startTime := 1000000, framesSent := 2, targetTime := 0 } })
      = some { startTime := 1000000, framesSent := 3, targetTime := 1153000 } := by decide +kernel

theorem test_gate_and_time :
    got (fun t => t.ret) (exec .paceGate { waiting .file with
        pacer := { startTime := 0, framesSent := 0, targetTime := 1 } }) = some (.gate false) ∧
    got (fun t => t.now) (exec (.tick 51000) State.reset) = some 51000 ∧
    refusalOf (exec (.tick 4) { State.reset with now := 5 }) = some .backwardTime := by decide +kernel

/-- A file session in a later pass, these samples still to be supplied again. -/
def replaying (ys : List Sample) (pos : Nat) : State :=
  { streaming .filling .file 4 pos with playback := { pass := [100, 200], replay := some ys } }

/-- 70_reset_and_hazards.md R268, 93_implementation_defined.md U19: a pass is recorded and must be supplied again. -/
theorem test_replay :
    got (fun t => t.playback.pass) (exec (.pcmIn 100) (streaming .filling .file 4 0)) = some [100] ∧
    got (fun t => t.playback.replay) (exec (.pcmIn 100) (replaying [100, 200] 0)) = some (some [200]) ∧
    refusalOf (exec (.pcmIn 101) (replaying [100, 200] 0)) = some .sourceNotReplayed ∧
    refusalOf (exec .pcmEof (replaying [200] 1)) = some .sourceNotReplayed ∧
    got (fun t => t.playback.replay) (exec .loopRestart { replaying [] 0 with
        stx := (streaming .loopWait .file 4 0).stx }) = some (some [100, 200]) := by decide +kernel

/-- 45_transfer.md R206: a matching acknowledgment is acted on before a stale one that is offered with it is heard. -/
theorem test_matchBeforeNextMessage :
    got (fun t => (t.xfer.idx, t.lsn.lastAck, t.inbox.length)) (step { transferring .awaitingAck 1 with
        lsn := { capReply := none, lastAck := some 1, malformedCount := 0 }
        inbox := [.msg .ack [0x41, 0x43, 0x4B, 0x3A, 0x30]] }) = some (2, some 1, 1) := by decide +kernel

/-- 43_transport.md R168: the last sample of a frame closes it. -/
theorem test_pcmIn :
    got (fun t => (t.stx.state, t.pkt.pos)) (exec (.pcmIn 100) (streaming .filling .file 4 3)) = some (.ready, 0) ∧
    faultOf (exec (.pcmIn 100) (streaming .ready .file 4 0)) = some .portNotReady := by decide +kernel

theorem test_pcmEof :
    got (fun t => (t.stx.state, t.stx.eof)) (exec .pcmEof (streaming .filling .file 5 2)) = some (.ready, true) ∧
    got (fun t => (t.stx.state, t.stx.eof)) (exec .pcmEof (streaming .filling .file 5 0)) = some (.idle, false) := by
  decide +kernel

theorem test_loopRestart :
    got (fun t => (t.stx.state, t.pacer.startTime, t.outputs))
      (exec .loopRestart { streaming .loopWait .file 4 0 with now := 9 }) = some (.filling, 9, [.pcmRewind]) := by
  decide +kernel

/-- 43_transport.md R171, 60_exceptions.md R232: a failed send reports the packet's own number. -/
theorem test_sendFrame :
    got (fun t => (t.stx.state, t.pkt.out, t.outputs)) (exec (.sendFrame .ok) (waiting .live))
      = some (.filling, none, [.dgram 1 2 [1, 2, 3]]) ∧
    got (fun t => (t.stx.txFailCount, t.pacer.framesSent, t.outputs)) (exec (.sendFrame .fail) (waiting .file))
      = some (1, 1, [.event 1 7, .dgram 1 2 [1, 2, 3]]) := by decide +kernel

theorem test_pcmOverrun :
    got (fun t => (t.stx.overrunCount, t.outputs)) (exec .pcmOverrun (waiting .live)) = some (1, [.event 2 0]) ∧
    got (fun t => t.outputs) (exec .pcmOverrun State.reset) = some [] := by decide +kernel

theorem test_configuration :
    got (fun t => (t.cfg.frameMs, t.cfg.paceNum)) (exec (.cfgWrite .frameMs 60) State.reset)
      = some (some 60, none) ∧
    got (fun t => t.outputs) (exec .cmdReserved State.reset) = some [] := by decide

/-- 44_capacity.md R188: equality proceeds; one byte more does not. -/
theorem test_capDecide :
    got (fun t => (t.xfer.state, t.lsn.capReply))
      (exec .capDecide { transferring .negotiating 0 with
        lsn := { capReply := some (4, 6), lastAck := none, malformedCount := 0 } })
      = some (.sendingChunk, none) ∧
    got (fun t => (t.xfer.state, t.outputs))
      (exec .capDecide { transferring .negotiating 0 with
        lsn := { capReply := some (4, 5), lastAck := none, malformedCount := 0 } })
      = some (.abortedInsufficientSpace, [.event 4 0]) := by decide +kernel

theorem test_capTimeout :
    got (fun t => (t.xfer.state, t.outputs)) (exec .capTimeout { transferring .negotiating 0 with now := 100 })
      = some (.abortedNoReply, [.event 3 0]) ∧
    faultOf (exec .capTimeout { transferring .negotiating 0 with now := 99 })
      = some (.notEnabled "CAP_TIMEOUT") := by decide +kernel

/-- 45_transfer.md R205: the rule's example, `"CHUNK:2:3:"` and the bytes 08 09. -/
theorem test_xferSendChunk :
    got (fun t => (t.xfer.state, t.xfer.deadline, t.outputs)) (exec .xferSendChunk (transferring .sendingChunk 2))
      = some (.awaitingAck, 50,
          [.msg .data [0x43, 0x48, 0x55, 0x4E, 0x4B, 0x3A, 0x32, 0x3A, 0x33, 0x3A, 8, 9]]) := by
  decide +kernel

/-- 45_transfer.md R207: the rule's example, and an advance by one. -/
theorem test_xferAckMatch :
    got (fun t => (t.xfer.state, t.xfer.lastAcked, t.outputs))
      (exec .xferAckMatch { transferring .awaitingAck 2 with
        lsn := { capReply := none, lastAck := some 2, malformedCount := 0 } })
      = some (.complete, some 2, [.msg .data [0x45, 0x4E, 0x44]]) ∧
    got (fun t => (t.xfer.state, t.xfer.idx))
      (exec .xferAckMatch { transferring .awaitingAck 1 with
        lsn := { capReply := none, lastAck := some 1, malformedCount := 0 } })
      = some (.sendingChunk, 2) := by decide +kernel

theorem test_xferAckTimeout :
    got (fun t => (t.xfer.state, t.xfer.idx, t.outputs))
      (exec .xferAckTimeout { transferring .awaitingAck 1 with now := 100 })
      = some (.abortedTimeout, 1, [.event 5 1]) ∧
    faultOf (exec .xferAckTimeout { transferring .awaitingAck 1 with
        now := 100, lsn := { capReply := none, lastAck := some 1, malformedCount := 0 } })
      = some (.notEnabled "XFER_ACK_TIMEOUT") := by decide +kernel

theorem test_reset :
    got (fun t => (t.stx.state, t.pkt.out, t.now, t.outputs)) (exec .reset { waiting .live with now := 5 })
      = some (.idle, none, 5, []) := by decide +kernel

/-! ### Witnesses: states that meet the hypotheses of the statements -/

theorem test_witness_DecodeInvertsEncode :
    (Instr.packet 1 2 88 [3]).wellFormed = true ∧ (Instr.free (2 ^ 32 - 1) 0).wellFormed = true := by decide

theorem test_witness_DecodedOperations :
    (decode ⟨.n4, [0x0F]⟩ = .ok .code0xF ∧ Instr.oneSpelling .code0xF = true) ∧
    (decode ⟨.cmd, [2, 0, 0, 0, 7]⟩ = .ok (.xferStart 7) ∧ Instr.oneSpelling (.xferStart 7) = true) ∧
    (decode ⟨.msg .data, [0x45, 0x4E, 0x44]⟩ = .ok .endMsg ∧ Instr.oneSpelling .endMsg = true) ∧
    (decode ⟨.pkt, []⟩ = .ok (.pktDecode []) ∧ Source.pkt ≠ Instr.source (.pktDecode [])) := by decide

theorem test_witness_DecimalNumbers :
    ∃ b : List Byte, b ≠ [] ∧ (∀ d ∈ b, 0x30 ≤ d.toNat ∧ d.toNat ≤ 0x39) ∧ decValue b = 0 ∧
      (dec 0).head? = some 0x30 :=
  ⟨[0x30], by decide⟩

/-- For `CodesMoveTheDecoder`, `DecoderReconstructsAndLoads`, `CodecStaysInRange` and those on the encoder: the
bounds of the index. -/
theorem test_witness_legalIndices :
    (dec0 5 88).dec.stepIndex.toNat ≤ 88 ∧ (dec0 5 0).dec.stepIndex.toNat ≤ 88 ∧
    (enc0 5 88).enc.stepIndex.toNat ≤ 88 ∧ (88 : StepIndex).toNat ≤ 88 := by decide

/-- For `IllegalStepIndexStopsTheCodec`. -/
theorem test_witness_illegalIndices :
    88 < (dec0 5 89).dec.stepIndex.toNat ∧ 88 < (enc0 5 89).enc.stepIndex.toNat ∧ 88 < (89 : StepIndex).toNat := by
  decide

/-- For `CodecDependsOnItsStateAlone` and `DecoderKeepsStepWithEncoder`. -/
theorem test_witness_equalCodecStates :
    ∃ s u : State, s ≠ u ∧ s.enc = u.enc ∧ s.dec = u.dec ∧ u.dec = s.enc ∧ s.enc.stepIndex.toNat ≤ 88 :=
  ⟨State.reset, { State.reset with now := 3 }, by decide⟩

theorem test_witness_FramePush :
    (∃ s : State, s.pkt.pos < s.stx.cfg.frameSamples ∧ s.enc.stepIndex.toNat ≤ 88) ∧
    (∃ s : State, s.stx.cfg.frameSamples ≤ s.pkt.pos) ∧
    (∃ s : State, s.pkt.pos < s.stx.cfg.frameSamples ∧ 88 < s.enc.stepIndex.toNat) :=
  ⟨⟨streaming .filling .file 4 3, by decide⟩, ⟨streaming .filling .file 4 4, by decide⟩,
    ⟨{ streaming .filling .file 4 3 with enc := { predictor := 0, stepIndex := 89 } }, by decide⟩⟩

theorem test_witness_FramePushStoresOneNibble :
    ∃ s t : State, MemCanonical s ∧ exec (.framePush 100) s = .next t := by
  obtain ⟨t, h, _⟩ := exists_next (p := fun _ => true)
    (a := exec (.framePush 100) (streaming .filling .file 4 0)) (by decide +kernel)
  exact ⟨_, t, by unfold MemCanonical; decide, h⟩

theorem test_witness_FramesArePaddedAndClosed :
    (∃ s : State, 0 < s.pkt.pos ∧ s.pkt.pos < s.stx.cfg.frameSamples ∧ s.enc.stepIndex.toNat ≤ 88) ∧
    (∃ s : State, s.pkt.pos = 0 ∨ s.stx.cfg.frameSamples ≤ s.pkt.pos) ∧
    (∃ s : State, s.pkt.pos = s.stx.cfg.frameSamples) ∧ (∃ s : State, s.pkt.pos ≠ s.stx.cfg.frameSamples) :=
  ⟨⟨streaming .filling .file 5 4, by decide⟩, ⟨streaming .filling .file 5 5, by decide⟩,
    ⟨streaming .filling .file 5 5, by decide⟩, ⟨streaming .filling .file 5 4, by decide⟩⟩

theorem test_witness_EncodingAFrame :
    (∃ (xs : List Sample) (s : State), s.pkt.pos = 0 ∧ xs ≠ [] ∧ xs.length ≤ s.stx.cfg.frameSamples ∧
      s.enc.stepIndex.toNat ≤ 88) ∧
    (∃ (xs : List Sample) (s : State), s.stx.cfg.frameSamples < xs.length) :=
  ⟨⟨[1, 2, 3, 4], streaming .idle .file 4 0, by decide⟩, ⟨[1, 2], streaming .idle .file 1 0, by decide⟩⟩

/-- For `PacketHoldsItsCodes` and `PacketsDecodeAlone`: an odd, padded frame. -/
theorem test_witness_packets :
    ∃ (s t u : State) (b : List Byte), s.pkt.payload = [] ∧ exec (.encFrame [7, 9]) s = .next t ∧
      t.pkt.out = some b ∧ u.cfg.sampleRate = some 300 ∧ u.cfg.frameMs = some 10 ∧
      300 * 10 / 1000 = s.stx.cfg.frameSamples := by
  obtain ⟨t, h, hp⟩ := exists_next (p := fun t => t.pkt.out.isSome)
    (a := exec (.encFrame [7, 9]) (streaming .idle .file 3 0)) (by decide +kernel)
  obtain ⟨b, hb⟩ := Option.isSome_iff_exists.1 hp
  exact ⟨_, t, configured 300 10, b, rfl, h, hb, rfl, rfl, rfl⟩

theorem test_witness_Datagrams :
    (configured 300 10).cfg.sampleRate = some 300 ∧ (configured 300 10).cfg.frameMs = some 10 ∧
    State.reset.cfg.sampleRate = none ∧ 300 * 10 / 1000 = 3 ∧ 99 * 10 / 1000 = 0 ∧
    (∃ b : List Byte, b.length = 7 + (3 + 1) / 2 ∧ (b.getD 6 0).toNat ≤ 88) ∧
    (∃ b : List Byte, b.length = 7 + (3 + 1) / 2 ∧ 88 < (b.getD 6 0).toNat) ∧
    (∃ b : List Byte, b.length ≠ 7 + (3 + 1) / 2) ∧
    (∃ payload : List Byte, payload.length = (3 + 1) / 2) :=
  ⟨rfl, rfl, rfl, rfl, rfl, ⟨[0, 0, 0, 1, 0, 0x68, 88, 0x77, 0xE0], by decide⟩,
    ⟨[0, 0, 0, 1, 0, 0x68, 89, 0x77, 0xE0], by decide⟩, ⟨[], by decide⟩, ⟨[0, 0], by decide⟩⟩

theorem test_witness_Pacer :
    (∃ (s : State) (t : TimeWord), s.now ≤ t.toNat) ∧ (∃ (s : State) (t : TimeWord), t.toNat < s.now) ∧
    (∃ s : State, s.stx.cfg.paceDen ≠ 0 ∧
      s.pacer.startTime + (s.pacer.framesSent + 1) * s.stx.cfg.frameMs * s.stx.cfg.paceNum * 1000000
        / (s.stx.cfg.paceDen * 1000) < 2 ^ 64) ∧
    (∃ s : State, s.stx.cfg.paceDen ≠ 0 ∧
      2 ^ 64 ≤ s.pacer.startTime + (s.pacer.framesSent + 1) * s.stx.cfg.frameMs * s.stx.cfg.paceNum * 1000000
        / (s.stx.cfg.paceDen * 1000)) ∧
    (∃ s : State, s.stx.cfg.paceDen = 0) :=
  ⟨⟨State.reset, 0, by decide⟩, ⟨{ State.reset with now := 1 }, 0, by decide⟩,
    ⟨streaming .filling .file 4 0, by decide⟩,
    ⟨{ streaming .filling .file 4 0 with
        pacer := { startTime := 2 ^ 64 - 51000, framesSent := 0, targetTime := 0 } }, by decide⟩,
    ⟨State.reset, by decide⟩⟩

theorem test_witness_ScheduleDoesNotDrift :
    ∃ s : State, s.stx.cfg.frameMs = 60 ∧ s.stx.cfg.paceNum = 17 ∧ s.stx.cfg.paceDen = 20 ∧
      s.stx.cfg.paceDen ≠ 0 ∧ s.now + 51000 * 100 < 2 ^ 64 ∧
      s.now + 100 * s.stx.cfg.frameMs * s.stx.cfg.paceNum * 1000000 / (s.stx.cfg.paceDen * 1000) < 2 ^ 64 :=
  ⟨streaming .filling .file 4 0, by decide⟩

theorem test_witness_PacketsNeverLeaveEarly :
    ∃ s t : State, PacerOnSchedule s ∧ s.stx.cfg.paceDen ≠ 0 ∧ s.stx.mode = .file ∧
      exec (.sendFrame .ok) s = .next t := by
  obtain ⟨t, h, _⟩ := exists_next (p := fun _ => true)
    (a := exec (.sendFrame .ok) (waiting .file)) (by decide +kernel)
  exact ⟨_, t, by unfold PacerOnSchedule; decide, by decide, rfl, h⟩

theorem test_witness_StreamStart :
    (waiting .file).stx.state ≠ .idle ∧ State.reset.stx.state = .idle ∧ State.reset.cfg.destAddr = none ∧
    (configured 16000 60).stx.state = .idle ∧ (configured 16000 60).cfg = regs 16000 60 ∧
    16000 * 60 / 1000 ≠ 0 ∧ 1 * 999 / 1000 = 0 ∧ 1 * 1000 / 1000 ≠ 0 := by decide

theorem test_witness_Samples :
    (∃ s : State, s.stx.state = .filling ∧ s.stx.eof = false ∧ s.enc.stepIndex.toNat ≤ 88 ∧
      s.pkt.pos < s.stx.cfg.frameSamples ∧ s.pkt.pos + 1 ≠ s.stx.cfg.frameSamples) ∧
    (∃ s : State, s.stx.state = .filling ∧ s.stx.eof = false ∧ s.enc.stepIndex.toNat ≤ 88 ∧
      s.pkt.pos < s.stx.cfg.frameSamples ∧ s.pkt.pos + 1 = s.stx.cfg.frameSamples ∧ 0 < s.pkt.pos) ∧
    (∃ s : State, s.stx.state = .filling ∧ s.stx.eof = false ∧ s.stx.cfg.frameSamples ≤ s.pkt.pos ∧
      0 < s.pkt.pos) ∧
    (∃ s : State, s.stx.state = .filling ∧ s.stx.eof = false ∧ s.pkt.pos < s.stx.cfg.frameSamples ∧
      88 < s.enc.stepIndex.toNat) ∧
    (∃ s : State, s.stx.state = .filling ∧ s.stx.eof = false ∧ s.pkt.pos = 0) ∧
    (∃ s : State, s.stx.state ≠ .filling ∨ s.stx.eof = true) :=
  ⟨⟨streaming .filling .file 4 2, by decide⟩, ⟨streaming .filling .file 4 3, by decide⟩,
    ⟨streaming .filling .file 4 4, by decide⟩,
    ⟨{ streaming .filling .file 4 3 with enc := { predictor := 0, stepIndex := 89 } }, by decide⟩,
    ⟨streaming .filling .file 4 0, by decide⟩, ⟨State.reset, by decide⟩⟩

/-- For `SamplesFillFrames` and `EndOfSourceClosesTheFrame`: what a source may supply, and what it may not. -/
theorem test_witness_Source :
    Supplies .file 5 (streaming .filling .file 4 2).playback { pass := [5], replay := none } ∧
    Supplies .file 200 (replaying [200] 1).playback { pass := [100, 200], replay := some [] } ∧
    (¬∃ p, Supplies .file 201 (replaying [200] 1).playback p) ∧
    MayEnd .file (streaming .filling .file 4 2).playback ∧ MayEnd .file (replaying [] 2).playback ∧
    ¬MayEnd .file (replaying [200] 1).playback ∧ (replaying [200] 1).stx.state = .filling ∧
    (replaying [200] 1).stx.eof = false ∧ (replaying [200] 1).pkt.pos < (replaying [200] 1).stx.cfg.frameSamples := by
  refine ⟨.inr (.inl ⟨rfl, rfl, rfl⟩), .inr (.inr ⟨rfl, [], rfl, rfl⟩), ?_, .inr (.inl rfl), .inr (.inr rfl), ?_,
    rfl, rfl, by decide⟩
  · simp [Supplies, replaying]
  · simp [MayEnd, replaying]

/-- For `LoopRestartResetsEncoderAndAnchor` and `SendFrameOffersThePacketOnce`. -/
theorem test_witness_gated :
    (∃ s : State, s.stx.state = .loopWait ∧ (s.stx.mode = .live ∨ s.pacer.targetTime ≤ s.now)) ∧
    (∃ s : State, s.stx.mode = .file ∧ s.now < s.pacer.targetTime) ∧
    (∃ s : State, s.stx.state = .ready ∧ s.stx.mode = .file ∧ s.pacer.targetTime ≤ s.now ∧
      s.pkt.out = some [1, 2, 3] ∧ s.stx.cfg.paceDen ≠ 0 ∧
      s.pacer.startTime + (s.pacer.framesSent + 1) * s.stx.cfg.frameMs * s.stx.cfg.paceNum * 1000000
        / (s.stx.cfg.paceDen * 1000) < 2 ^ 64) ∧
    (∃ s : State, s.stx.state = .ready ∧ s.stx.mode = .live ∧ s.pkt.out = some [1, 2, 3] ∧
      s.stx.cfg.paceDen ≠ 0 ∧
      2 ^ 64 = s.pacer.startTime + (s.pacer.framesSent + 1) * s.stx.cfg.frameMs * s.stx.cfg.paceNum * 1000000
        / (s.stx.cfg.paceDen * 1000)) ∧
    (∃ s : State, s.stx.state = .ready ∧ s.stx.mode = .live ∧ s.pkt.out = some [1, 2, 3] ∧
      s.stx.cfg.paceDen = 0) ∧
    (∃ s : State, s.stx.state = .ready ∧ s.stx.mode = .live ∧ s.pkt.out = none) :=
  ⟨⟨streaming .loopWait .file 4 0, by decide⟩,
    ⟨{ State.reset with pacer := { startTime := 0, framesSent := 0, targetTime := 1 } }, by decide⟩,
    ⟨waiting .file, by decide⟩,
    ⟨{ waiting .live with pacer := { startTime := 2 ^ 64 - 51000, framesSent := 0, targetTime := 0 } }, by decide⟩,
    ⟨{ waiting .live with stx := { State.reset.stx with state := .ready, mode := .live } }, by decide⟩,
    ⟨streaming .ready .live 4 0, by decide⟩⟩

theorem test_witness_Overrun : (waiting .file).stx.state ≠ .idle ∧ State.reset.stx.state = .idle := by decide

theorem test_witness_Listener :
    undec [0x30] = some 0 ∧ undec [0x34, 0x32, 0x39, 0x34, 0x39, 0x36, 0x37, 0x32, 0x39, 0x35] = some (2 ^ 32 - 1) ∧
    undec [0x34, 0x32, 0x39, 0x34, 0x39, 0x36, 0x37, 0x32, 0x39, 0x36] = none ∧
    (∀ d1 d2 : List Byte, ([] : List Byte) = [0x46, 0x52, 0x45, 0x45, 0x3A] ++ d1 ++ [0x3A] ++ d2 →
      undec d1 = none ∨ undec d2 = none) ∧
    (∀ d : List Byte, ([] : List Byte) = [0x41, 0x43, 0x4B, 0x3A] ++ d → undec d = none) ∧
    parseFree [] = none ∧ parseAck [] = none :=
  ⟨by decide, by decide, by decide, fun _ _ h => by simp at h, fun _ h => by simp at h, rfl, rfl⟩

/-- For `CapacityIsDecidedOnce` and `CapacityExamples`. -/
theorem test_witness_Capacity :
    (∃ s : State, s.xfer.state = .negotiating ∧ s.lsn.capReply = some (400, 700) ∧ s.xfer.fileSize = 1000 ∧
      s.xfer.total ≠ 0 ∧ s.xfer.fileSize ≤ 400 + 700) ∧
    (∃ s : State, s.xfer.state = .negotiating ∧ s.lsn.capReply = some (400, 0) ∧ s.xfer.fileSize = 1000 ∧
      s.xfer.total ≠ 0 ∧ 400 + 0 < s.xfer.fileSize) ∧
    (∃ s : State, s.xfer.state = .negotiating ∧ s.lsn.capReply = some (0, 0) ∧ s.xfer.fileSize ≤ 0 + 0 ∧
      s.xfer.total = 0) ∧
    (∃ s : State, s.xfer.state = .negotiating ∧ s.lsn.capReply = none ∧ s.xfer.deadline ≤ s.now) ∧
    (∃ s : State, s.xfer.state = .negotiating ∧ s.lsn.capReply = none ∧ s.now < s.xfer.deadline) :=
  ⟨⟨{ transferring .negotiating 0 with
        xfer := { (transferring .negotiating 0).xfer with fileSize := 1000 }
        lsn := { capReply := some (400, 700), lastAck := none, malformedCount := 0 } }, by decide⟩,
    ⟨{ transferring .negotiating 0 with
        xfer := { (transferring .negotiating 0).xfer with fileSize := 1000 }
        lsn := { capReply := some (400, 0), lastAck := none, malformedCount := 0 } }, by decide⟩,
    ⟨{ State.reset with
        xfer := { State.reset.xfer with state := .negotiating }
        lsn := { capReply := some (0, 0), lastAck := none, malformedCount := 0 } }, by decide⟩,
    ⟨{ transferring .negotiating 0 with now := 100 }, by decide⟩,
    ⟨{ transferring .negotiating 0 with now := 99 }, by decide⟩⟩

theorem test_witness_TransferStart :
    (transferring .awaitingAck 0).xfer.state = .awaitingAck ∧ State.reset.xfer.state ≠ .negotiating ∧
    State.reset.xfer.state ≠ .sendingChunk ∧ State.reset.xfer.state ≠ .awaitingAck ∧
    State.reset.cfg.chunkSize = none ∧ (configured 1 1).cfg.chunkSize = some 4 ∧
    (configured 1 1).cfg.ackTimeout = some 5000000 ∧ (configured 1 1).cfg.capTimeout = some 19000000 ∧
    (configured 1 1).cfg.idx0 = some 0 ∧ (configured 1 1).now + 19000000 < 2 ^ 64 ∧
    ((2 ^ 32 - 1 : SizeWord).toNat + 1 - 1) / 1 = 2 ^ 32 - 1 := by decide

theorem test_witness_ChunkIsPublished :
    (∃ s : State, s.xfer.state = .sendingChunk ∧ s.now + s.xfer.cfg.ackTimeout < 2 ^ 64 ∧
      s.xfer.cfg.idx0 ≤ s.xfer.idx ∧ (s.xfer.idx - s.xfer.cfg.idx0) * s.xfer.cfg.chunkSize ≤ s.xfer.fileSize) ∧
    (∃ s : State, s.xfer.state = .sendingChunk ∧ 2 ^ 64 ≤ s.now + s.xfer.cfg.ackTimeout) ∧
    (∃ s : State, s.xfer.state = .sendingChunk ∧ s.now + s.xfer.cfg.ackTimeout < 2 ^ 64 ∧
      s.xfer.fileSize < (s.xfer.idx - s.xfer.cfg.idx0) * s.xfer.cfg.chunkSize) ∧
    (∃ s : State, s.xfer.state ≠ .sendingChunk) :=
  ⟨⟨transferring .sendingChunk 2, by decide⟩,
    ⟨{ transferring .sendingChunk 2 with now := 2 ^ 64 - 50 }, by decide⟩,
    ⟨transferring .sendingChunk 3, by decide⟩, ⟨State.reset, by decide⟩⟩

theorem test_witness_ChunksAreTheFile :
    ∃ s : State, 0 < s.xfer.cfg.chunkSize ∧ s.xfer.total = chunkCount s.xfer.fileSize s.xfer.cfg.chunkSize ∧
      1 + 1 < s.xfer.total ∧ 2 + 1 = s.xfer.total :=
  ⟨transferring .sendingChunk 0, by decide⟩

theorem test_witness_Acknowledgments :
    (∃ s : State, s.xfer.state = .awaitingAck ∧ s.lsn.lastAck = some s.xfer.idx ∧
      s.xfer.idx + 1 = s.xfer.cfg.idx0 + s.xfer.total) ∧
    (∃ s : State, s.xfer.state = .awaitingAck ∧ s.lsn.lastAck = some s.xfer.idx ∧
      s.xfer.idx + 1 ≠ s.xfer.cfg.idx0 + s.xfer.total ∧ s.xfer.idx + 1 < 2 ^ 32) ∧
    (∃ s : State, s.xfer.state = .awaitingAck ∧ s.lsn.lastAck = some s.xfer.idx ∧
      s.xfer.idx + 1 ≠ s.xfer.cfg.idx0 + s.xfer.total ∧ 2 ^ 32 ≤ s.xfer.idx + 1) ∧
    (∃ s : State, s.xfer.state = .awaitingAck ∧ s.lsn.lastAck ≠ some s.xfer.idx ∧ s.xfer.deadline ≤ s.now) ∧
    (∃ s : State, s.xfer.state = .awaitingAck ∧ s.lsn.lastAck ≠ some s.xfer.idx ∧ s.now < s.xfer.deadline) :=
  ⟨⟨{ transferring .awaitingAck 2 with
        lsn := { capReply := none, lastAck := some 2, malformedCount := 0 } }, by decide⟩,
    ⟨{ transferring .awaitingAck 1 with
        lsn := { capReply := none, lastAck := some 1, malformedCount := 0 } }, by decide⟩,
    ⟨{ transferring .awaitingAck (2 ^ 32 - 1) with
        lsn := { capReply := none, lastAck := some (2 ^ 32 - 1), malformedCount := 0 } }, by decide⟩,
    ⟨{ transferring .awaitingAck 1 with now := 100 }, by decide⟩,
    ⟨{ transferring .awaitingAck 1 with now := 99 }, by decide⟩⟩

theorem test_witness_StepRuns :
    decode ⟨.n4, [3]⟩ = .ok .code0x3 ∧ decode ⟨.msgIn .other, []⟩ = .error .otherTopic ∧
    decode ⟨.n4, []⟩ = .error .badLength ∧ decodeTableWord 8 3 = some .code0x3 ∧
    ({ State.reset with script := [⟨.n4, [3]⟩] } : State).script = [⟨.n4, [3]⟩] := by decide

/-- One arrival of each of the four urgent classes behind a sample. -/
theorem test_witness_UrgentArrivals :
    ∀ p ∈ [(1, Arrival.resetIn), (2, .cmd 3 0), (3, .cmd 2 7), (3, .cfg .idx0 1), (4, .msg .ack [])],
      (∀ b ∈ offeredNow { State.reset with inbox := [.pcm 5, p.2, .tick 9] }, p.1 ≤ arrivalClass b) ∧
      (offeredNow { State.reset with inbox := [.pcm 5, p.2, .tick 9] }).find? (fun b => arrivalClass b == p.1)
        = some p.2 ∧
      ackMatchEnabled { State.reset with inbox := [.pcm 5, p.2, .tick 9] } = false := by decide

/-- For the second clause of `UrgentArrivalsComeFirst`. -/
theorem test_witness_matchFirst :
    ∃ s : State, s.script = [] ∧ (∀ b ∈ offeredNow s, 4 ≤ arrivalClass b) ∧ ackMatchEnabled s = true ∧
      offeredNow s ≠ [] :=
  ⟨{ transferring .awaitingAck 1 with
      lsn := { capReply := none, lastAck := some 1, malformedCount := 0 }
      inbox := [.msg .ack []] }, by decide⟩

theorem test_witness_InternalSteps :
    ackMatchEnabled { transferring .awaitingAck 2 with
      lsn := { capReply := none, lastAck := some 2, malformedCount := 0 } } = true ∧
    ackTimeoutEnabled { transferring .awaitingAck 2 with now := 100 } = true ∧
    capDecideEnabled { transferring .negotiating 0 with
      lsn := { capReply := some (1, 2), lastAck := none, malformedCount := 0 } } = true ∧
    capTimeoutEnabled { transferring .negotiating 0 with now := 100 } = true ∧
    sendChunkEnabled (transferring .sendingChunk 0) = true ∧
    transferStep (waiting .file) = none ∧ sendFrameEnabled (waiting .file) = true ∧
    transferStep (streaming .loopWait .file 4 0) = none ∧
    loopRestartEnabled (streaming .loopWait .file 4 0) = true ∧
    internalEnabled (streaming .filling .file 4 0) = false ∧ sampleReady (streaming .filling .file 4 0) = true ∧
    internalEnabled State.reset = false ∧ sampleReady State.reset = false ∧ arrivalClass (.pcm 5) = 6 ∧
    (∀ b ∈ offeredNow { State.reset with inbox := [.pcm 5, .tick 9] }, 5 ≤ arrivalClass b) := by decide

/-- For `EnabledStepsHoldTime`. -/
theorem test_witness_EnabledSteps :
    ∃ s t : State, s.script = [] ∧ internalEnabled s = true ∧ step s = .next t := by
  obtain ⟨t, h, _⟩ := exists_next (p := fun _ => true)
    (a := step { transferring .negotiating 0 with now := 100, inbox := [.tick 200] }) (by decide +kernel)
  exact ⟨_, t, by decide +kernel, by decide +kernel, h⟩

/-- The first chunk of the session is out and its acknowledgment awaited; a stream runs beside it. -/
def busy : State :=
  { streaming .filling .file 4 0 with
    xfer := { state := .awaitingAck, idx := 0, total := 1, fileSize := 2, deadline := 100, lastAcked := none
              cfg := { chunkSize := 4, ackTimeout := 50, capTimeout := 70, idx0 := 0 } }
    outputs := [.msg .data (chunkBody 0 1 [0, 0]), .msg .data (startBody 2), .msg .req []]
    inbox := [.pcm 5] }

theorem test_witness_ranges : RangeInv busy ∧ PacerOnSchedule busy := by
  refine ⟨⟨by unfold CodecRange; decide, by unfold MemCanonical; decide, by unfold TimesFit; decide, ?_⟩,
    by unfold PacerOnSchedule; decide⟩
  simp [NumbersFit, busy, streaming, State.reset]

theorem test_witness_sessions : SessionInv busy := by
  refine ⟨rfl, by unfold CodecRange; decide, by unfold MemCanonical; decide, ?_, ?_⟩
  · refine ⟨by decide, by decide, by decide, by decide, by decide, fun k _ => ?_⟩
    show getNibble k 0 = 0
    unfold getNibble
    split <;> decide
  · exact ⟨by decide, by decide, by decide⟩

theorem test_witness_traffic : TrafficInv busy := by
  show sessionBodies busy = startBody 2 :: chunkBodies busy 1
  decide +kernel

/-- With the three before: for the statements about what a step keeps. -/
theorem test_witness_busyStep : ∃ t, step busy = .next t := by
  obtain ⟨t, h, _⟩ := exists_next (p := fun _ => true) (a := step busy) (by decide +kernel)
  exact ⟨t, h⟩

/-- For `StreamTransitionsAreListed`: the last sample of a frame, a failed send at the end of a pass, and a start
each change `STX.state`. -/
theorem test_witness_streamTransitions :
    (∃ t, exec (.pcmIn 5) (streaming .filling .file 4 3) = .next t ∧ decide (t.stx.state = .ready) = true) ∧
    (∃ t, exec (.sendFrame .fail) (waiting .file) = .next t ∧
      decide (t.stx.state = .filling ∧ t.outputs = [.event 1 7, .dgram 1 2 [1, 2, 3]]) = true) ∧
    (∃ t, exec (.streamStart .file false) (configured 16000 60) = .next t ∧
      decide (t.stx.state = .filling) = true) ∧
    Instr.isStep (.pcmIn 5) = true ∧ Instr.isStep (.sendFrame .fail) = true ∧
    Instr.isStep (.streamStart .file false) = true :=
  ⟨exists_next (by decide +kernel), exists_next (by decide +kernel), exists_next (by decide +kernel),
    rfl, rfl, rfl⟩

/-- For `TransferTransitionsAreListed`: a start, a chunk sent and an acknowledgment matched each change `XFER.state`, the
last `XFER.idx` too. -/
theorem test_witness_transferTransitions :
    (∃ t, exec (.xferStart 10) (configured 1 1) = .next t ∧ decide (t.xfer.state = .negotiating) = true) ∧
    (∃ t, exec .xferSendChunk (transferring .sendingChunk 1) = .next t ∧
      decide (t.xfer.state = .awaitingAck) = true) ∧
    (∃ t, exec .xferAckMatch { transferring .awaitingAck 1 with
        lsn := { capReply := none, lastAck := some 1, malformedCount := 0 } } = .next t ∧
      decide (t.xfer.state = .sendingChunk ∧ t.xfer.idx = 2) = true) ∧
    Instr.isStep (.xferStart 10) = true ∧ Instr.isStep .xferSendChunk = true ∧
    Instr.isStep .xferAckMatch = true :=
  ⟨exists_next (by decide +kernel), exists_next (by decide +kernel), exists_next (by decide +kernel),
    rfl, rfl, rfl⟩

/-- For `OnlyOwnersWrite`: `CANCEL` changes `STX.state`, `PKT.out` and `XFER.state` at once. -/
theorem test_witness_owners :
    ∃ t, exec .cancel { waiting .file with xfer := (transferring .awaitingAck 1).xfer } = .next t ∧
      decide (t.stx.state = .idle ∧ t.pkt.out = none ∧ t.xfer.state = .abortedCancelled) = true :=
  exists_next (by decide +kernel)

/-- For the two sides, `SidesCommute` and `RunningSessionsIgnoreConfiguration`. -/
theorem test_witness_sides :
    ∃ a b : State, Instr.isStreaming (.pcmIn 5) = true ∧ Instr.isTransfer (.msgInAck []) = true ∧
      Instr.isStep (.pcmIn 5) = true ∧ Instr.isStep (.msgInAck []) = true ∧
      Instr.touchesConfig (.pcmIn 5) = false ∧
      exec (.pcmIn 5) busy = .next a ∧ exec (.msgInAck []) busy = .next b ∧
      sameStreamView busy { busy with file := [(3, 4)] } ∧
      sameTransferView busy { busy with dec := { predictor := 1, stepIndex := 1 } } := by
  obtain ⟨a, ha, _⟩ := exists_next (p := fun _ => true) (a := exec (.pcmIn 5) busy) (by decide +kernel)
  obtain ⟨b, hb, _⟩ := exists_next (p := fun _ => true) (a := exec (.msgInAck []) busy) (by decide +kernel)
  exact ⟨a, b, rfl, rfl, rfl, rfl, rfl, ha, hb, ⟨rfl, rfl, rfl, rfl, rfl, rfl, rfl⟩, ⟨rfl, rfl, rfl, rfl, rfl⟩⟩

end Sys2Proof.Tests
end

/-! ## Proofs: one sample, one code and runs of either through the codec (40_codec.md R94, R95, R114, R115) -/

namespace Sys2Proof.Machine

/-! ### What one operation of the codec does -/

/-- `ENC_SAMPLE` from a legal index (R94): the encoder quantises, follows its own code and returns it. -/
theorem exec_encSample_of_legal {s : State} (h : s.enc.stepIndex.toNat ≤ 88) (x : Sample) :
    exec (.encSample x) s = .next ((encSample x s).withRet (.code (codecCode s.enc x))) :=
  if_pos ((codecValid_iff s.enc).2 h)

/-- `DEC_SAMPLE` from a legal index (R95): the decoder follows the code and returns its new predictor. -/
theorem exec_decSample_of_legal {s : State} (h : s.dec.stepIndex.toNat ≤ 88) (c : Code) :
    exec (.decSample c) s =
      .next ((decSample c s).withRet (.sample (codecAfter s.dec c).predictor)) :=
  if_pos ((codecValid_iff s.dec).2 h)

@[simp] theorem encSample_enc (x : Sample) (s : State) :
    (encSample x s).enc = codecAfter s.enc (codecCode s.enc x) := rfl

@[simp] theorem decSample_dec (c : Code) (s : State) : (decSample c s).dec = codecAfter s.dec c := rfl

/-- A sample keeps a legal encoder index legal, and is never refused from one. -/
theorem encSample_keeps_legal (x : Sample) (s : State) (h : s.enc.stepIndex.toNat ≤ 88) :
    ∃ t, exec (.encSample x) s = .next t ∧ t.enc.stepIndex.toNat ≤ 88 :=
  ⟨_, exec_encSample_of_legal h x, codecAfter_stepIndex_le s.enc (codecCode s.enc x)⟩

/-- A code keeps a legal decoder index legal, and is never refused from one. -/
theorem decSample_keeps_legal (c : Code) (s : State) (h : s.dec.stepIndex.toNat ≤ 88) :
    ∃ t, exec (.decSample c) s = .next t ∧ t.dec.stepIndex.toNat ≤ 88 :=
  ⟨_, exec_decSample_of_legal h c, codecAfter_stepIndex_le s.dec c⟩

/-- The type of a sample is `int16` (00_scope.md R8). -/
theorem sample_toInt_range (p : Sample) : -32768 ≤ p.toInt ∧ p.toInt ≤ 32767 := by
  have hlo := BitVec.le_toInt p
  have hhi := BitVec.toInt_lt (x := p)
  omega

/-! ### Runs of operations -/

@[simp] theorem runAll_nil (s : State) : runAll [] s = .next s := rfl

/-- A run goes on from the next state of its first operation. -/
theorem runAll_cons_of_next {i : Instr} {s t : State} (h : exec i s = .next t) (is : List Instr) :
    runAll (i :: is) s = runAll is t := by
  simp [runAll, h]

/-- If an operation runs from every state with a property and keeps the property for every operand, then so does
a run of it over any list of operands. -/
theorem runAll_map_keeps {α : Type} {op : α → Instr} {P : State → Prop}
    (hstep : ∀ a s, P s → ∃ t, exec (op a) s = .next t ∧ P t) (as : List α) (s : State) (hs : P s) :
    ∃ t, runAll (as.map op) s = .next t ∧ P t := by
  induction as generalizing s with
  | nil => exact ⟨s, runAll_nil s, hs⟩
  | cons a as ih =>
    obtain ⟨s1, hexec, hs1⟩ := hstep a s hs
    obtain ⟨t, hrun, ht⟩ := ih s1 hs1
    exact ⟨t, (runAll_cons_of_next hexec _).trans hrun, ht⟩

/-! ### The obligations -/

/-- Settles O12, by induction on the run: each operation runs from a legal index and leaves a legal index. -/
theorem codecStaysInRange : Obligations.CodecStaysInRange := by
  refine ⟨fun xs s hs => ?_, fun cs s hs => ?_⟩
  · obtain ⟨t, hrun, ht⟩ :=
      runAll_map_keeps (P := fun s => s.enc.stepIndex.toNat ≤ 88) encSample_keeps_legal xs s hs
    exact ⟨t, hrun, ht, sample_toInt_range _⟩
  · obtain ⟨t, hrun, ht⟩ :=
      runAll_map_keeps (P := fun s => s.dec.stepIndex.toNat ≤ 88) decSample_keeps_legal cs s hs
    exact ⟨t, hrun, ht, sample_toInt_range _⟩

/-- Settles O11: the returned value and the new codec state are functions of the old codec state and the operand. -/
theorem codecDependsOnItsStateAlone : Obligations.CodecDependsOnItsStateAlone := by
  refine ⟨fun s u x henc hs => ?_, fun s u c hdec hs => ?_⟩
  · have hu : u.enc.stepIndex.toNat ≤ 88 := henc ▸ hs
    exact ⟨_, _, codecCode s.enc x, exec_encSample_of_legal hs x, exec_encSample_of_legal hu x,
      by simp, by simp [henc], by simp [henc]⟩
  · have hu : u.dec.stepIndex.toNat ≤ 88 := hdec ▸ hs
    exact ⟨_, _, (codecAfter s.dec c).predictor, exec_decSample_of_legal hs c, exec_decSample_of_legal hu c,
      by simp, by simp [hdec], by simp [hdec]⟩

end Sys2Proof.Machine

/-! ## Proofs: `PCM_OVERRUN` (43_transport.md R173) -/

namespace Sys2Proof.Machine

/-- While a session streams, `PCM_OVERRUN` is the event `CAPTURE_OVERRUN` (R173, R231). -/
theorem exec_pcmOverrun_of_streaming {s : State} (h : s.stx.state ≠ .idle) :
    exec .pcmOverrun s = .next (takeEvent .captureOverrun 0 s) :=
  if_neg h

/-- With no session streaming, `PCM_OVERRUN` is ignored (R173). -/
theorem exec_pcmOverrun_of_idle {s : State} (h : s.stx.state = .idle) : exec .pcmOverrun s = .next s :=
  if_pos h

/-- Settles O30, by the two cases of the guard: the event counts and reports, and in `IDLE` nothing happens. -/
theorem overrunIsCountedOnly : Obligations.OverrunIsCountedOnly := by
  refine fun s => ⟨fun hstreaming => ?_, exec_pcmOverrun_of_idle⟩
  rw [exec_pcmOverrun_of_streaming hstreaming, takeEvent_captureOverrun]

end Sys2Proof.Machine

/-! ## Proofs: the capacity decision (44_capacity.md R188, R190, R192) -/

namespace Sys2Proof.Machine

/-- A reply in hand while negotiating enables `CAP_DECIDE` (R188). -/
theorem capDecideEnabled_of_reply {s : State} {r : Nat × Nat} (hneg : s.xfer.state = .negotiating)
    (hreply : s.lsn.capReply = some r) : capDecideEnabled s = true := by
  simp [capDecideEnabled, hneg, hreply]

/-- Enough space for a file of at least one chunk: `START` goes out and the chunks are next (R188). -/
theorem exec_capDecide_of_fits {s : State} {f g : Nat} (hneg : s.xfer.state = .negotiating)
    (hreply : s.lsn.capReply = some (f, g)) (hfits : s.xfer.fileSize ≤ f + g) (htotal : s.xfer.total ≠ 0) :
    exec .capDecide s =
      .next (setXferState .sendingChunk (emit (.msg .data (startBody s.xfer.fileSize)) (clearReply s))) := by
  show execCapDecide s = _
  simp [execCapDecide, capDecideEnabled_of_reply hneg hreply, hreply, hfits, htotal]

/-- Too little space, for whatever file: the decision is the event `CAP_INSUFFICIENT` (R188, R190). -/
theorem exec_capDecide_of_exceeds {s : State} {f g : Nat} (hneg : s.xfer.state = .negotiating)
    (hreply : s.lsn.capReply = some (f, g)) (hexceeds : f + g < s.xfer.fileSize) :
    exec .capDecide s = .next (takeEvent .capInsufficient 0 (clearReply s)) := by
  show execCapDecide s = _
  simp [execCapDecide, capDecideEnabled_of_reply hneg hreply, hreply, hexceeds]

/-- `CAP_INSUFFICIENT` puts no message on `T_DATA`: its one output is the report (R231). -/
theorem takeEvent_capInsufficient_dataBody (info : SizeWord) (s : State) :
    (takeEvent .capInsufficient info s).outputs.filterMap dataBody = s.outputs.filterMap dataBody := by
  rw [takeEvent_capInsufficient]
  exact List.filterMap_cons_none rfl

/-- The body `START:1000` (30_encoding.md R68, R75). -/
theorem startBody_1000 :
    startBody 1000 = [0x53, 0x54, 0x41, 0x52, 0x54, 0x3A, 0x31, 0x30, 0x30, 0x30] := by decide

/-- Settles O37: 1000 is at most 400 + 700 and more than 400 + 0, so the first reply starts the transfer and the second
ends it with an event. -/
theorem capacityExamples : Obligations.CapacityExamples := by
  refine fun s hneg hsize htotal => ⟨fun hreply => ?_, fun hreply => ?_⟩
  · have hfits : s.xfer.fileSize ≤ 400 + 700 := by omega
    refine ⟨_, exec_capDecide_of_fits hneg hreply hfits htotal, rfl, ?_⟩
    rw [hsize, startBody_1000]
    rfl
  · have hexceeds : 400 + 0 < s.xfer.fileSize := by omega
    refine ⟨_, exec_capDecide_of_exceeds hneg hreply hexceeds, ?_, takeEvent_capInsufficient_dataBody 0 _⟩
    simp [takeEvent_capInsufficient, clearReply, hneg]

end Sys2Proof.Machine

/-! ## Proofs: malformed messages (45_transfer.md R215) -/

namespace Sys2Proof.Machine

/-- A body on `T_RESP` that is no reply is the event `MALFORMED_REPLY` (44_capacity.md R187). -/
theorem exec_msgInFree_of_malformed {body : List Byte} (h : parseFree body = none) (s : State) :
    exec (.msgInFree body) s = .next (takeEvent .malformedReply 0 s) := by
  show execMsgInFree body s = _
  simp only [execMsgInFree, listenFree_eq, h, takeEvent_malformedReply]

/-- A body on `T_ACK` that is no acknowledgment is the event `MALFORMED_REPLY` (45_transfer.md R206). -/
theorem exec_msgInAck_of_malformed {body : List Byte} (h : parseAck body = none) (s : State) :
    exec (.msgInAck body) s = .next (takeEvent .malformedReply 1 s) := by
  show execMsgInAck body s = _
  simp only [execMsgInAck, listenAck_eq, h, takeEvent_malformedReply]

/-- `MALFORMED_REPLY` leaves both cells, the transfer session with its deadline, and the time (60_exceptions.md R231,
R237). -/
theorem takeEvent_malformedReply_frame (info : SizeWord) (s : State) :
    (takeEvent .malformedReply info s).lsn.capReply = s.lsn.capReply ∧
      (takeEvent .malformedReply info s).lsn.lastAck = s.lsn.lastAck ∧
      (takeEvent .malformedReply info s).xfer = s.xfer ∧ (takeEvent .malformedReply info s).now = s.now := by
  rw [takeEvent_malformedReply]
  exact ⟨rfl, rfl, rfl, rfl⟩

/-- Settles O35: on either topic a malformed body is the event `MALFORMED_REPLY`, which writes neither a cell nor the
session. -/
theorem malformedMessagesAreIgnored : Obligations.MalformedMessagesAreIgnored := fun s _ =>
  ⟨fun hfree => ⟨_, exec_msgInFree_of_malformed hfree s, takeEvent_malformedReply_frame 0 s⟩,
    fun hack => ⟨_, exec_msgInAck_of_malformed hack s, takeEvent_malformedReply_frame 1 s⟩⟩

end Sys2Proof.Machine

/-! ## Proofs: the encoder and the decoder are inverses (30_encoding.md R61 to R76, log 12) -/

namespace Sys2Proof.Machine

/-! ### Words and their bytes -/

theorem packetSeq_eq (a b c d e f i : Byte) (r : List Byte) :
    packetSeq (a :: b :: c :: d :: e :: f :: i :: r) = word32 a b c d := rfl

theorem packetPredictor_eq (a b c d e f i : Byte) (r : List Byte) :
    packetPredictor (a :: b :: c :: d :: e :: f :: i :: r) = word16 e f := rfl

/-- A 16-bit operand is its bytes side by side, the more significant first (20_memory.md R46). -/
theorem word16_eq_append (hi lo : Byte) : word16 hi lo = (hi ++ lo : BitVec 16) := by
  apply BitVec.eq_of_toNat_eq
  have hhi : hi.toNat < 256 := hi.isLt
  have hlo : lo.toNat < 256 := lo.isLt
  simp only [word16, BitVec.toNat_append, BitVec.toNat_ofNat]
  rw [← Nat.shiftLeft_add_eq_or_of_lt hlo, Nat.shiftLeft_eq]
  omega

/-- A 32-bit operand is its bytes side by side, the most significant first (20_memory.md R46). -/
theorem word32_eq_append (a b c d : Byte) : word32 a b c d = (a ++ b ++ c ++ d : BitVec 32) := by
  apply BitVec.eq_of_toNat_eq
  have ha : a.toNat < 256 := a.isLt
  have hb : b.toNat < 256 := b.isLt
  have hc : c.toNat < 256 := c.isLt
  have hd : d.toNat < 256 := d.isLt
  simp only [word32, BitVec.toNat_append, BitVec.toNat_ofNat]
  rw [← Nat.shiftLeft_add_eq_or_of_lt hd, ← Nat.shiftLeft_add_eq_or_of_lt hc,
    ← Nat.shiftLeft_add_eq_or_of_lt hb]
  simp only [Nat.shiftLeft_eq]
  omega

/-- The operand of `TICK` is its two halves side by side. -/
theorem ofNat64_eq_append (h l : BitVec 32) :
    BitVec.ofNat 64 (h.toNat * 2 ^ 32 + l.toNat) = (h ++ l : BitVec 64) := by
  apply BitVec.eq_of_toNat_eq
  have hh : h.toNat < 4294967296 := h.isLt
  have hl : l.toNat < 4294967296 := l.isLt
  simp only [BitVec.toNat_append, BitVec.toNat_ofNat]
  rw [← Nat.shiftLeft_add_eq_or_of_lt hl, Nat.shiftLeft_eq]
  omega

theorem word16_extract (x : BitVec 16) : word16 (x.extractLsb' 8 8) (x.extractLsb' 0 8) = x := by
  rw [word16_eq_append]
  ext i hi
  simp
  grind

theorem bytes16_word16 (hi lo : Byte) : bytes16 (word16 hi lo) = [hi, lo] := by
  rw [word16_eq_append]
  simp only [bytes16, List.cons.injEq, and_true]
  refine ⟨?_, ?_⟩ <;> ext i hi <;> simp [BitVec.getElem_extractLsb'] <;> grind

theorem word32_extract (x : BitVec 32) :
    word32 (x.extractLsb' 24 8) (x.extractLsb' 16 8) (x.extractLsb' 8 8) (x.extractLsb' 0 8) = x := by
  rw [word32_eq_append]
  ext i hi
  simp
  grind

theorem bytes32_word32 (a b c d : Byte) : bytes32 (word32 a b c d) = [a, b, c, d] := by
  rw [word32_eq_append]
  simp only [bytes32, List.cons.injEq, and_true]
  refine ⟨?_, ?_, ?_, ?_⟩ <;> ext i hi <;> simp [BitVec.getElem_extractLsb'] <;> grind

theorem extract_append (h l : BitVec 32) :
    (h ++ l : BitVec 64).extractLsb' 32 32 = h ∧ (h ++ l : BitVec 64).extractLsb' 0 32 = l := by
  refine ⟨?_, ?_⟩ <;> ext i hi <;> simp [BitVec.getElem_extractLsb'] <;> grind

theorem append_extract (x : BitVec 64) : (x.extractLsb' 32 32 ++ x.extractLsb' 0 32 : BitVec 64) = x := by
  ext i hi
  simp
  grind

theorem codeOfByte_codeByte (c : Code) : codeOfByte (codeByte c) = some c := by
  revert c
  decide

theorem codeOfByte_some {b : Byte} {c : Code} (h : codeOfByte b = some c) : codeByte c = b := by
  revert b c
  decide

theorem samplesOfBytes_flatMap (xs : List Sample) : samplesOfBytes (xs.flatMap bytes16) = some xs := by
  induction xs with
  | nil => rfl
  | cons x xs ih =>
    rw [List.flatMap_cons]
    simp only [samplesOfBytes, bytes16, List.cons_append, List.nil_append] at ih ⊢
    rw [ih, word16_extract]

theorem samplesOfBytes_some {b : List Byte} {xs : List Sample} (h : samplesOfBytes b = some xs) :
    xs.flatMap bytes16 = b := by
  induction b using samplesOfBytes.induct generalizing xs with
  | case1 =>
    obtain rfl : [] = xs := by simpa [samplesOfBytes] using h
    rfl
  | case2 => simp [samplesOfBytes] at h
  | case3 hi lo rest ys hys ih =>
    obtain rfl : word16 hi lo :: ys = xs := by simpa [samplesOfBytes, hys] using h
    rw [List.flatMap_cons, ih hys, bytes16_word16]
    rfl
  | case4 hi lo rest hrest ih => simp [samplesOfBytes, hrest] at h

/-! ### Message bodies -/

theorem parseStart_startBody {n : Nat} (h : n < 2 ^ 32) : parseStart (startBody n) = some n := by
  simp [parseStart, startBody, undec_dec h]

theorem startBody_ne_litEnd (n : Nat) : startBody n ≠ litEnd := by
  simp [startBody, litStart, litEnd]

theorem chunkBody_ne_litEnd (i t : Nat) (d : List Byte) : chunkBody i t d ≠ litEnd := by
  simp [chunkBody, litChunk, litEnd]

theorem parseStart_chunkBody (i t : Nat) (d : List Byte) : parseStart (chunkBody i t d) = none := by
  simp [parseStart, chunkBody, litStart, litChunk, afterPrefix]

/-- The body of a `CHUNK` message is read back. -/
theorem parseChunk_chunkBody {i t : Nat} {d : List Byte} (hi : i < 2 ^ 32) (ht : t < 2 ^ 32) (hd : d ≠ []) :
    parseChunk (chunkBody i t d) = some (i, t, d) := by
  simp [parseChunk, chunkBody, List.append_assoc, splitColon_append (colon_not_mem_dec _), undec_dec hi,
    undec_dec ht, hd]

theorem parseStart_some {body : List Byte} {n : Nat} (h : parseStart body = some n) : n < 2 ^ 32 := by
  unfold parseStart at h
  split at h
  · simp at h
  · obtain ⟨_, _, _, hlt⟩ := undec_some h
    exact hlt

theorem parseChunk_some {body d : List Byte} {i t : Nat} (h : parseChunk body = some (i, t, d)) :
    i < 2 ^ 32 ∧ t < 2 ^ 32 ∧ d ≠ [] := by
  unfold parseChunk at h
  split at h
  · simp at h
  · split at h
    · simp at h
    · split at h
      · simp at h
      · split at h
        · rename_i hi ht
          split at h
          · simp at h
          · rename_i hd
            simp only [Option.some.injEq, Prod.mk.injEq] at h
            obtain ⟨rfl, rfl, rfl⟩ := h
            obtain ⟨_, _, _, hi⟩ := undec_some hi
            obtain ⟨_, _, _, ht⟩ := undec_some ht
            exact ⟨hi, ht, by simpa using hd⟩
        · simp at h

/-- A number a message may carry is one below `2^32` (R76). -/
theorem messageNumber_iff (n : Nat) : messageNumber n = true ↔ n < 2 ^ 32 := by
  rw [messageNumber, decide_eq_true_iff, Config.wSize]

/-! ### Every operation is read back -/

theorem decodePkt_headerBytes (seq : Seq) (p : Sample) {i : StepIndex} (h : i.toNat ≤ 88) (payload : List Byte) :
    decodePkt (headerBytes seq p i ++ payload) = .packet seq p i payload := by
  have hheader : headerBytes seq p i ++ payload =
      seq.extractLsb' 24 8 :: seq.extractLsb' 16 8 :: seq.extractLsb' 8 8 :: seq.extractLsb' 0 8 ::
        p.extractLsb' 8 8 :: p.extractLsb' 0 8 :: i :: payload := rfl
  have hpacket : ¬((headerBytes seq p i ++ payload).length < 7 ∨
      88 < (packetStepIndex (headerBytes seq p i ++ payload)).toNat) := by
    refine not_or.2 ⟨?_, Nat.not_lt.2 h⟩
    exact Nat.not_lt.2 (Nat.le_add_left 7 payload.length)
  rw [decodePkt, if_neg hpacket, hheader, packetSeq_eq, packetPredictor_eq, word32_extract, word16_extract]
  rfl

theorem decodeCmd_cmdBytes {k : Byte} (hk : k.toNat < 4) (arg : SizeWord) :
    decodeCmd (cmdBytes k arg) = .ok (commandInstr (k.extractLsb' 0 2) arg) := by
  have harg := word32_extract arg
  simp only [cmdBytes, bytes32, decodeCmd, hk, if_true, harg]

theorem decodeEvent_eventBytes {k : Byte} {info : SizeWord} {i : Instr} (h : eventInstr k.toNat info = some i) :
    decodeEvent (eventBytes k info) = ifWellFormed .badEvent i := by
  have hinfo := word32_extract info
  simp only [eventBytes, bytes32, decodeEvent, hinfo, h]

theorem decodeSampleOp_bytes16 (f : Sample → Instr) (x : Sample) : decodeSampleOp f (bytes16 x) = .ok (f x) := by
  simp only [decodeSampleOp, bytes16, word16_extract x]

theorem decodeLoadOp_bytes (f : Sample → StepIndex → Instr) (p : Sample) (i : StepIndex) :
    decodeLoadOp f (bytes16 p ++ [i]) = ifWellFormed .badStepIndex (f p i) := by
  simp only [decodeLoadOp, bytes16, List.cons_append, List.nil_append, word16_extract p]

theorem decodeReconOp_bytes (p : Sample) (i : StepIndex) (c : Code) :
    decodeReconOp (bytes16 p ++ [i, codeByte c]) = ifWellFormed .badStepIndex (.recon p i c) := by
  simp only [decodeReconOp, bytes16, List.cons_append, List.nil_append, word16_extract p, codeOfByte_codeByte]

theorem decodeTime_bytes (t : TimeWord) :
    decodeTime (bytes32 (t.extractLsb' 32 32) ++ bytes32 (t.extractLsb' 0 32)) = .ok (.tick t) := by
  have hh := word32_extract (t.extractLsb' 32 32)
  have hl := word32_extract (t.extractLsb' 0 32)
  simp only [bytes32, List.cons_append, List.nil_append, decodeTime, hh, hl]
  rw [ofNat64_eq_append, append_extract]

theorem cfgOfNumber_cfgNumber (n : CfgName) : cfgOfNumber (cfgNumber n) = some n := by
  cases n <;> rfl

theorem commandInstr_streamArg (mode : Mode) (loop : Bool) :
    commandInstr 1 (streamArg mode loop) = .streamStart mode loop := by
  cases mode <;> cases loop <;> decide

theorem ifWellFormed_ok {r : Reject} {i j : Instr} : ifWellFormed r i = .ok j ↔ j = i ∧ i.wellFormed = true := by
  unfold ifWellFormed
  split
  · exact ⟨fun h => ⟨(Except.ok.inj h).symm, ‹_›⟩, fun h => h.1 ▸ rfl⟩
  · exact ⟨fun h => absurd h (by simp), fun h => absurd h.2 ‹_›⟩

/-- Settles O1, by the operation: the decoder of each source undoes the encoder's layout. -/
theorem decodeInvertsEncode : Obligations.DecodeInvertsEncode := by
  intro i hwf
  have hif (r : Reject) : ifWellFormed r i = .ok i := ifWellFormed_ok.2 ⟨rfl, hwf⟩
  cases i with
  | payloadByte h l =>
    show Except.ok _ = _
    congr 2 <;> ext j hj <;> simp [BitVec.getElem_extractLsb'] <;> grind
  | packet seq p i payload =>
    exact congrArg _ (decodePkt_headerBytes seq p (by simpa [Instr.wellFormed, StepIndex.legal] using hwf) payload)
  | req => exact if_pos rfl
  | free f r =>
    simp only [Instr.wellFormed, Bool.and_eq_true, messageNumber_iff] at hwf
    show decodeMsg .resp (freeBody f r) = _
    rw [decodeMsg, parseFree_freeBody hwf.1 hwf.2]
    rfl
  | start n =>
    show decodeMsg .data (startBody n) = _
    rw [decodeMsg, if_neg (startBody_ne_litEnd n), parseStart_startBody ((messageNumber_iff n).1 hwf)]
  | chunk i t d =>
    simp only [Instr.wellFormed, Bool.and_eq_true, messageNumber_iff] at hwf
    obtain ⟨⟨hi, ht⟩, hd⟩ := hwf
    show decodeMsg .data (chunkBody i t d) = _
    rw [decodeMsg, if_neg (chunkBody_ne_litEnd i t d), parseStart_chunkBody,
      parseChunk_chunkBody hi ht (by simpa using hd)]
    rfl
  | ack n =>
    show decodeMsg .ack (ackBody n) = _
    rw [decodeMsg, parseAck_ackBody ((messageNumber_iff n).1 hwf)]
    rfl
  | cmdReserved => exact decodeCmd_cmdBytes (k := 0) (by decide) 0
  | streamStart mode loop =>
    exact (decodeCmd_cmdBytes (k := 1) (by decide) _).trans (congrArg _ (commandInstr_streamArg mode loop))
  | xferStart size => exact decodeCmd_cmdBytes (k := 2) (by decide) size
  | cancel => exact decodeCmd_cmdBytes (k := 3) (by decide) 0
  | eventTxSendFail info => exact (decodeEvent_eventBytes (k := 1) rfl).trans (hif _)
  | eventCaptureOverrun info => exact (decodeEvent_eventBytes (k := 2) rfl).trans (hif _)
  | eventCapNoReply info => exact (decodeEvent_eventBytes (k := 3) rfl).trans (hif _)
  | eventCapInsufficient info => exact (decodeEvent_eventBytes (k := 4) rfl).trans (hif _)
  | eventAckTimeout info => exact (decodeEvent_eventBytes (k := 5) rfl).trans (hif _)
  | eventMalformedReply info => exact (decodeEvent_eventBytes (k := 6) rfl).trans (hif _)
  | eventCancelled info => exact (decodeEvent_eventBytes (k := 7) rfl).trans (hif _)
  | eventDecReject info => exact (decodeEvent_eventBytes (k := 8) rfl).trans (hif _)
  | recon p i c => exact (decodeReconOp_bytes p i c).trans (hif _)
  | encSample x => exact decodeSampleOp_bytes16 .encSample x
  | decSample c =>
    show orReject .badNibble ((codeOfByte (codeByte c)).map .decSample) = _
    rw [codeOfByte_codeByte]
    rfl
  | encLoad p i => exact (decodeLoadOp_bytes .encLoad p i).trans (hif _)
  | decLoad p i => exact (decodeLoadOp_bytes .decLoad p i).trans (hif _)
  | framePush x => exact decodeSampleOp_bytes16 .framePush x
  | encFrame xs =>
    show decodeFrameOp (xs.flatMap bytes16) = _
    rw [decodeFrameOp, samplesOfBytes_flatMap]
    exact hif _
  | tick t => exact decodeTime_bytes t
  | pcmIn x => exact decodeSampleOp_bytes16 .pcmIn x
  | sendFrame r => cases r <;> rfl
  | cfgWrite n v =>
    show decodeCfg (cfgNumber n :: dec v) = _
    rw [decodeCfg, cfgOfNumber_cfgNumber, undecNat_dec]
  | _ => rfl

/-! ### What is read is well formed and written as it was read -/

/-- The operation `i` is well formed and stands at the source `src`, and if it has one spelling it is `b`. -/
def ReadFrom (src : Source) (b : List Byte) (i : Instr) : Prop :=
  i.wellFormed = true ∧ i.source = src ∧ (i.oneSpelling = true → encodeBytes i = b)

theorem orReject_ok {r : Reject} {o : Option Instr} {i : Instr} : orReject r o = .ok i ↔ o = some i := by
  cases o <;> simp [orReject]

/-- A code row stands at `N4` in the one byte it is read from (R61). -/
theorem codeInstr_readFrom {b : Byte} {i : Instr} (h : codeInstr b.toNat = some i) : ReadFrom .n4 [b] i := by
  have hall : ∀ b : Byte, (codeInstr b.toNat).all fun i =>
      i.wellFormed && decide (i.source = .n4) && decide (encodeBytes i = [b]) := by decide
  have hi := hall b
  simp only [h, Option.all_some, Bool.and_eq_true, decide_eq_true_eq] at hi
  exact ⟨hi.1.1, hi.1.2, fun _ => hi.2⟩

/-- An event row is written with the code and the information word it is read from (R231). -/
theorem eventInstr_some {k : Byte} {info : SizeWord} {i : Instr} (h : eventInstr k.toNat info = some i) :
    i.source = .event ∧ encodeBytes i = eventBytes k info := by
  have hk {n : Nat} (hn : n < 256) (h : k.toNat = n) : k = BitVec.ofNat 8 n :=
    BitVec.eq_of_toNat_eq (by rw [h, BitVec.toNat_ofNat, Nat.mod_eq_of_lt hn])
  unfold eventInstr at h
  split at h
  case h_9 => simp at h
  all_goals
    rename_i hcode
    obtain rfl := Option.some.inj h
    exact ⟨rfl, by rw [hk (by decide) hcode]; rfl⟩

theorem commandInstr_wellFormed (code : BitVec 2) (arg : SizeWord) :
    (commandInstr code arg).wellFormed = true ∧ (commandInstr code arg).source = .cmd := by
  unfold commandInstr
  split
  · exact ⟨rfl, rfl⟩
  · split
    · exact ⟨rfl, rfl⟩
    · split <;> exact ⟨rfl, rfl⟩

/-- Of the commands only `XFER_START` has no ignored argument bit (R72). -/
theorem commandInstr_oneSpelling {code : BitVec 2} {arg : SizeWord}
    (h : (commandInstr code arg).oneSpelling = true) :
    code = 2 ∧ commandInstr code arg = .xferStart arg := by
  unfold commandInstr at h ⊢
  split at h
  · simp [Instr.oneSpelling] at h
  · split at h
    · simp [Instr.oneSpelling] at h
    · split at h
      · rename_i h0 h1 h2
        exact ⟨h2, by rw [if_neg h0, if_neg h1, if_pos h2]⟩
      · simp [Instr.oneSpelling] at h

theorem decodePB_readFrom {b : List Byte} {i : Instr} (h : decodePB b = .ok i) : ReadFrom .pb b i := by
  unfold decodePB at h
  split at h
  · rename_i x
    obtain rfl := Except.ok.inj h
    refine ⟨rfl, rfl, fun _ => ?_⟩
    show [x.extractLsb' 4 4 ++ x.extractLsb' 0 4] = [x]
    congr 1
    ext j hj
    simp
    grind
  · simp at h

theorem decodeN4_readFrom {b : List Byte} {i : Instr} (h : decodeN4 b = .ok i) : ReadFrom .n4 b i := by
  unfold decodeN4 at h
  split at h
  · exact codeInstr_readFrom (orReject_ok.1 h)
  · simp at h

theorem decodeCmd_readFrom {b : List Byte} {i : Instr} (h : decodeCmd b = .ok i) : ReadFrom .cmd b i := by
  unfold decodeCmd at h
  split at h
  · rename_i k x y z w
    split at h
    · rename_i hk
      obtain rfl := Except.ok.inj h
      obtain ⟨hwf, hsrc⟩ := commandInstr_wellFormed (k.extractLsb' 0 2) (word32 x y z w)
      refine ⟨hwf, hsrc, fun hone => ?_⟩
      obtain ⟨hcode, hi⟩ := commandInstr_oneSpelling hone
      have hk2 : ∀ k : Byte, k.toNat < 4 → k.extractLsb' 0 2 = 2 → k = 2 := by decide
      rw [hi, hk2 k hk hcode]
      exact congrArg _ (bytes32_word32 x y z w)
    · simp at h
  · simp at h

theorem decodeEvent_readFrom {b : List Byte} {i : Instr} (h : decodeEvent b = .ok i) : ReadFrom .event b i := by
  unfold decodeEvent at h
  split at h
  · rename_i k x y z w
    split at h
    · rename_i j hj
      obtain ⟨rfl, hwf⟩ := ifWellFormed_ok.1 h
      obtain ⟨hsrc, hbytes⟩ := eventInstr_some hj
      refine ⟨hwf, hsrc, fun _ => hbytes.trans ?_⟩
      exact congrArg _ (bytes32_word32 x y z w)
    · simp at h
  · simp at h

theorem decodeBare_readFrom {i j : Instr} {src : Source} {b : List Byte} (h : decodeBare j b = .ok i)
    (hj : ReadFrom src [] j) : ReadFrom src b i := by
  unfold decodeBare at h
  split at h
  · obtain rfl := Except.ok.inj h
    exact hj
  · simp at h

theorem decodeSampleOp_readFrom {f : Sample → Instr} {src : Source} {b : List Byte} {i : Instr}
    (h : decodeSampleOp f b = .ok i) (hf : ∀ x, ReadFrom src (bytes16 x) (f x)) : ReadFrom src b i := by
  unfold decodeSampleOp at h
  split at h
  · rename_i hi lo
    obtain rfl := Except.ok.inj h
    exact bytes16_word16 hi lo ▸ hf (word16 hi lo)
  · simp at h

theorem decodeLoadOp_readFrom {f : Sample → StepIndex → Instr} {src : Source} {b : List Byte} {i : Instr}
    (h : decodeLoadOp f b = .ok i) (hsrc : ∀ p k, (f p k).source = src)
    (hf : ∀ p k, encodeBytes (f p k) = bytes16 p ++ [k]) : ReadFrom src b i := by
  unfold decodeLoadOp at h
  split at h
  · rename_i hi lo k
    obtain ⟨rfl, hwf⟩ := ifWellFormed_ok.1 h
    refine ⟨hwf, hsrc _ _, fun _ => ?_⟩
    rw [hf, bytes16_word16]
    rfl
  · simp at h

theorem decodeCodeOp_readFrom {b : List Byte} {i : Instr} (h : decodeCodeOp .decSample b = .ok i) :
    ReadFrom (.call .decSample) b i := by
  unfold decodeCodeOp at h
  split at h
  · obtain ⟨c, hc, rfl⟩ := Option.map_eq_some_iff.1 (orReject_ok.1 h)
    exact ⟨rfl, rfl, fun _ => congrArg (· :: []) (codeOfByte_some hc)⟩
  · simp at h

theorem decodeReconOp_readFrom {b : List Byte} {i : Instr} (h : decodeReconOp b = .ok i) :
    ReadFrom (.call .recon) b i := by
  unfold decodeReconOp at h
  split at h
  · rename_i hi lo k x
    split at h
    · rename_i c hc
      obtain ⟨rfl, hwf⟩ := ifWellFormed_ok.1 h
      refine ⟨hwf, rfl, fun _ => ?_⟩
      rw [encodeBytes, bytes16_word16, codeOfByte_some hc]
      rfl
    · simp at h
  · simp at h

theorem decodeResultOp_readFrom {b : List Byte} {i : Instr} (h : decodeResultOp b = .ok i) :
    ReadFrom (.call .sendFrame) b i := by
  unfold decodeResultOp at h
  split at h
  · rename_i x
    split at h
    · obtain rfl := Except.ok.inj h
      simp_all [ReadFrom, Instr.wellFormed, Instr.source, encodeBytes]
    · split at h
      · obtain rfl := Except.ok.inj h
        simp_all [ReadFrom, Instr.wellFormed, Instr.source, encodeBytes]
      · simp at h
  · simp at h

theorem decodeFrameOp_readFrom {b : List Byte} {i : Instr} (h : decodeFrameOp b = .ok i) :
    ReadFrom (.call .encFrame) b i := by
  unfold decodeFrameOp at h
  split at h
  · rename_i xs hxs
    obtain ⟨rfl, hwf⟩ := ifWellFormed_ok.1 h
    exact ⟨hwf, rfl, fun _ => samplesOfBytes_some hxs⟩
  · simp at h

/-- A directly named operation has its own source and one layout (log 12). -/
theorem decodeCall_readFrom {op : CallOp} {b : List Byte} {i : Instr} (h : decodeCall op b = .ok i) :
    ReadFrom (.call op) b i := by
  cases op with
  | recon => exact decodeReconOp_readFrom h
  | encSample => exact decodeSampleOp_readFrom h fun _ => ⟨rfl, rfl, fun _ => rfl⟩
  | decSample => exact decodeCodeOp_readFrom h
  | encLoad => exact decodeLoadOp_readFrom h (fun _ _ => rfl) fun _ _ => rfl
  | decLoad => exact decodeLoadOp_readFrom h (fun _ _ => rfl) fun _ _ => rfl
  | framePush => exact decodeSampleOp_readFrom h fun _ => ⟨rfl, rfl, fun _ => rfl⟩
  | encFrame => exact decodeFrameOp_readFrom h
  | sendFrame => exact decodeResultOp_readFrom h
  | _ => exact decodeBare_readFrom h ⟨rfl, rfl, fun _ => rfl⟩

theorem decodeTime_readFrom {b : List Byte} {i : Instr} (h : decodeTime b = .ok i) : ReadFrom .time b i := by
  unfold decodeTime at h
  split at h
  · rename_i a b c d e f g k
    obtain rfl := Except.ok.inj h
    refine ⟨rfl, rfl, fun _ => ?_⟩
    obtain ⟨hhi, hlo⟩ := extract_append (word32 a b c d) (word32 e f g k)
    rw [encodeBytes, ofNat64_eq_append, hhi, hlo, bytes32_word32, bytes32_word32]
    rfl
  · simp at h

theorem decodeCfg_readFrom {b : List Byte} {i : Instr} (h : decodeCfg b = .ok i) : ReadFrom .cfg b i := by
  unfold decodeCfg at h
  split at h
  · simp at h
  · split at h
    · obtain rfl := Except.ok.inj h
      exact ⟨rfl, rfl, fun hone => nomatch hone⟩
    · simp at h
    · simp at h

theorem decodeMsgIn_readFrom {topic : Topic} {b : List Byte} {i : Instr} (h : decodeMsgIn topic b = .ok i) :
    ReadFrom (.msgIn topic) b i := by
  cases topic with
  | resp | ack =>
    obtain rfl := Except.ok.inj h
    exact ⟨rfl, rfl, fun _ => rfl⟩
  | req | data | other => simp [decodeMsgIn] at h

/-- A byte string with room for it begins with a packet header (R63). -/
theorem exists_header {b : List Byte} (h : 7 ≤ b.length) :
    ∃ x0 x1 x2 x3 x4 x5 x6 r, b = x0 :: x1 :: x2 :: x3 :: x4 :: x5 :: x6 :: r := by
  rcases b with _ | ⟨x0, _ | ⟨x1, _ | ⟨x2, _ | ⟨x3, _ | ⟨x4, _ | ⟨x5, _ | ⟨x6, r⟩⟩⟩⟩⟩⟩⟩
  case cons.cons.cons.cons.cons.cons.cons => exact ⟨x0, x1, x2, x3, x4, x5, x6, r, rfl⟩
  all_goals simp at h

/-- What is read at `PKT` is a packet, or the datagram that is none (R77, log 14). -/
theorem decodePkt_readFrom (b : List Byte) :
    ReadFrom .pkt b (decodePkt b) ∨ decodePkt b = .pktDecode b := by
  by_cases h : b.length < 7 ∨ 88 < (packetStepIndex b).toNat
  · exact .inr (if_pos h)
  · refine .inl ?_
    rw [decodePkt, if_neg h]
    obtain ⟨hlen, hidx⟩ := not_or.1 h
    refine ⟨decide_eq_true (Nat.not_lt.1 hidx), rfl, fun _ => ?_⟩
    obtain ⟨x0, x1, x2, x3, x4, x5, x6, r, rfl⟩ := exists_header (Nat.not_lt.1 hlen)
    rw [encodeBytes, headerBytes, packetSeq_eq, packetPredictor_eq, bytes32_word32, bytes16_word16]
    rfl

/-- What is read on a topic is one of its messages, or the inbound message that is none (R78, log 16). -/
theorem decodeMsg_readFrom {topic : Topic} {b : List Byte} {i : Instr} (h : decodeMsg topic b = .ok i) :
    ReadFrom (.msg topic) b i ∨ (topic = .resp ∧ i = .msgInFree b) ∨ (topic = .ack ∧ i = .msgInAck b) := by
  cases topic with
  | req =>
    simp only [decodeMsg] at h
    split at h
    · rename_i hb
      obtain rfl := Except.ok.inj h
      exact .inl ⟨rfl, rfl, fun _ => hb.symm⟩
    · simp at h
  | resp =>
    obtain rfl := Except.ok.inj h
    cases hp : parseFree b with
    | none => exact .inr (.inl ⟨rfl, rfl⟩)
    | some p =>
      obtain ⟨hf, hr⟩ := parseFree_some (f := p.1) (r := p.2) hp
      refine .inl ⟨?_, rfl, fun hone => nomatch hone⟩
      show (messageNumber p.1 && messageNumber p.2) = true
      rw [Bool.and_eq_true, messageNumber_iff, messageNumber_iff]
      exact ⟨hf, hr⟩
  | data =>
    simp only [decodeMsg] at h
    split at h
    · rename_i hb
      obtain rfl := Except.ok.inj h
      exact .inl ⟨rfl, rfl, fun _ => hb.symm⟩
    · split at h
      · rename_i hn
        obtain rfl := Except.ok.inj h
        exact .inl ⟨(messageNumber_iff _).2 (parseStart_some hn), rfl, fun hone => nomatch hone⟩
      · obtain ⟨p, hp, rfl⟩ := Option.map_eq_some_iff.1 (orReject_ok.1 h)
        obtain ⟨hi, ht, hd⟩ := parseChunk_some (i := p.1) (t := p.2.1) (d := p.2.2) hp
        refine .inl ⟨?_, rfl, fun hone => nomatch hone⟩
        simp only [Instr.wellFormed, Bool.and_eq_true, messageNumber_iff]
        exact ⟨⟨hi, ht⟩, by simpa using hd⟩
  | ack =>
    obtain rfl := Except.ok.inj h
    cases hp : parseAck b with
    | none => exact .inr (.inr ⟨rfl, rfl⟩)
    | some n => exact .inl ⟨(messageNumber_iff n).2 (parseAck_some hp), rfl, fun hone => nomatch hone⟩
  | other => simp [decodeMsg] at h

/-- The decoder reads an operation from its own source, but for the malformed packets and messages that are inbound
datagrams and messages (log 14, log 16). -/
theorem decode_readFrom {t : Transaction} {i : Instr} (h : decode t = .ok i) :
    ReadFrom t.source t.bytes i ∨ (t.source = .pkt ∧ i = .pktDecode t.bytes) ∨
      (t.source = .msg .resp ∧ i = .msgInFree t.bytes) ∨ (t.source = .msg .ack ∧ i = .msgInAck t.bytes) := by
  obtain ⟨src, b⟩ := t
  cases src with
  | n4 => exact .inl (decodeN4_readFrom h)
  | pb => exact .inl (decodePB_readFrom h)
  | pkt =>
    obtain rfl := Except.ok.inj h
    exact (decodePkt_readFrom b).imp_right fun hd => .inl ⟨rfl, hd⟩
  | msg topic =>
    refine (decodeMsg_readFrom h).imp_right fun hm => .inr ?_
    exact hm.imp (fun ⟨ht, hi⟩ => ⟨congrArg _ ht, hi⟩) fun ⟨ht, hi⟩ => ⟨congrArg _ ht, hi⟩
  | cmd => exact .inl (decodeCmd_readFrom h)
  | event => exact .inl (decodeEvent_readFrom h)
  | resetIn => exact .inl (decodeBare_readFrom h ⟨rfl, rfl, fun _ => rfl⟩)
  | cfg => exact .inl (decodeCfg_readFrom h)
  | msgIn topic => exact .inl (decodeMsgIn_readFrom h)
  | pcmSample => exact .inl (decodeSampleOp_readFrom h fun _ => ⟨rfl, rfl, fun _ => rfl⟩)
  | pcmEof => exact .inl (decodeBare_readFrom h ⟨rfl, rfl, fun _ => rfl⟩)
  | pcmOverrun => exact .inl (decodeBare_readFrom h ⟨rfl, rfl, fun _ => rfl⟩)
  | dgramIn =>
    obtain rfl := Except.ok.inj h
    exact .inl ⟨rfl, rfl, fun _ => rfl⟩
  | time => exact .inl (decodeTime_readFrom h)
  | call op => exact .inl (decodeCall_readFrom h)

/-- Settles O2, by what the decoder can read. -/
theorem decodedOperationsAreWellFormedAndEncodeBack :
    Obligations.DecodedOperationsAreWellFormedAndEncodeBack := by
  intro t i h
  rcases decode_readFrom h with ⟨hwf, hsrc, hbytes⟩ | hother
  · refine ⟨hwf, fun hone _ => ?_, fun hne => absurd hsrc.symm hne⟩
    simp only [encode, hsrc, hbytes hone]
  · refine ⟨?_, fun _ hsrc => ?_, fun _ => hother⟩
    · rcases hother with ⟨_, rfl⟩ | ⟨_, rfl⟩ | ⟨_, rfl⟩ <;> rfl
    · rcases hother with ⟨ht, rfl⟩ | ⟨ht, rfl⟩ | ⟨ht, rfl⟩ <;> simp [ht, Instr.source] at hsrc

/-- Settles O3: the decoder evaluates each word. -/
theorem writtenWordsDecode : Obligations.WrittenWordsDecode := by
  refine ⟨?_, ?_, ?_, ?_, ?_, ?_, ?_⟩ <;> decide +kernel

/-! ### Decimal numbers (30_encoding.md R75, R76) -/

theorem isDigit_iff (b : Byte) : isDigit b = true ↔ 0x30 ≤ b.toNat ∧ b.toNat ≤ 0x39 := by
  simp [isDigit]

theorem foldl_decValue_lt (b : List Byte) (hb : ∀ d ∈ b, isDigit d = true) (v : Nat) :
    b.foldl (fun v d => v * 10 + (d.toNat - 48)) v < (v + 1) * 10 ^ b.length := by
  induction b generalizing v with
  | nil => simp
  | cons d b ih =>
    have hd := (isDigit_iff d).1 (hb d (by simp))
    have hrest := ih (fun e he => hb e (by simp [he])) (v * 10 + (d.toNat - 48))
    refine lt_of_lt_of_le hrest ?_
    rw [List.length_cons, pow_succ', ← mul_assoc]
    exact Nat.mul_le_mul_right _ (by omega)

/-- A string of `k` digits has a value below `10^k`. -/
theorem decValue_lt {b : List Byte} (hb : ∀ d ∈ b, isDigit d = true) : decValue b < 10 ^ b.length := by
  simpa [decValue] using foldl_decValue_lt b hb 0

/-- The spelling of a number with more than one digit is as long as its size demands. -/
theorem ten_pow_length_dec_le {n : Nat} (h : 10 ≤ n) : 10 ^ ((dec n).length - 1) ≤ n := by
  induction n using Nat.strongRecOn with
  | ind n ih =>
    rw [dec_eq, if_neg (by omega), List.length_append, List.length_singleton, Nat.add_sub_cancel]
    by_cases hn : n / 10 < 10
    · rw [dec_eq, if_pos hn]
      simpa using h
    · have hprev := ih (n / 10) (by omega) (by omega)
      have hpos : (dec (n / 10)).length ≠ 0 := by simp [dec_ne_nil]
      calc 10 ^ (dec (n / 10)).length = 10 ^ ((dec (n / 10)).length - 1) * 10 := by
            rw [← pow_succ]
            congr 1
            omega
        _ ≤ n / 10 * 10 := Nat.mul_le_mul_right _ hprev
        _ ≤ n := Nat.div_mul_le_self n 10

/-- No string of digits with the same value is shorter. -/
theorem length_dec_le {b : List Byte} (hne : b ≠ []) (hb : ∀ d ∈ b, isDigit d = true) :
    (dec (decValue b)).length ≤ b.length := by
  have hpos : 0 < b.length := List.length_pos_iff.2 hne
  by_cases h : decValue b < 10
  · rw [dec_eq, if_pos h]
    exact hpos
  · have hlt := lt_of_le_of_lt (ten_pow_length_dec_le (Nat.not_lt.1 h)) (decValue_lt hb)
    have := (Nat.pow_lt_pow_iff_right (by decide : 1 < 10)).1 hlt
    omega

/-- Only the spelling of 0 begins with a zero. -/
theorem head_dec_pos {n : Nat} (h : n ≠ 0) : (dec n).head? ≠ some 0x30 := by
  induction n using Nat.strongRecOn with
  | ind n ih =>
    rw [dec_eq]
    by_cases hn : n < 10
    · rw [if_pos hn, Nat.mod_eq_of_lt hn]
      intro hhead
      have hzero := congrArg BitVec.toNat (Option.some.inj hhead)
      rw [digitByte_toNat hn] at hzero
      exact h (Nat.add_left_cancel hzero)
    · rw [if_neg hn, List.head?_append_of_ne_nil _ (dec_ne_nil _)]
      exact ih (n / 10) (by omega) (by omega)

/-- `undec` reads exactly the digit strings whose value fits (R76). -/
theorem undec_eq_some_iff {b : List Byte} {n : Nat} :
    undec b = some n ↔ b ≠ [] ∧ (∀ d ∈ b, isDigit d = true) ∧ decValue b = n ∧ n < 2 ^ 32 := by
  refine ⟨undec_some, fun ⟨hne, hdigits, hvalue, hlt⟩ => ?_⟩
  have hall : (!b.isEmpty && b.all isDigit) = true := by
    simpa [hne] using hdigits
  rw [undec, undecNat, if_pos hall, hvalue]
  exact if_pos hlt

/-- Settles O4: `dec` has its value, no needless zero and no shorter rival, and `undec` reads the digit
strings that fit. -/
theorem decimalNumbersReadAndWritten : Obligations.DecimalNumbersReadAndWritten := by
  simp only [Obligations.DecimalNumbersReadAndWritten, ← isDigit_iff]
  refine ⟨fun n => ⟨dec_isDigit n, decValue_dec n, fun hhead => ?_, fun b hne hb hvalue => ?_⟩,
    fun b n => undec_eq_some_iff⟩
  · by_cases hn : n = 0
    · subst hn
      rfl
    · exact absurd hhead (head_dec_pos hn)
  · exact hvalue ▸ length_dec_le hne hb

end Sys2Proof.Machine

/-! ## Proofs: the codec's rules on integers (40_codec.md R90 to R118) -/

namespace Sys2Proof.Machine

/-! ### Reconstruction -/

theorem reconDelta_eq_deltaRule (step : Nat) (c : Code) : reconDelta step c = deltaRule step c := by
  simp [reconDelta, deltaRule, Nat.shiftRight_eq_div_pow]

/-- `RECON` follows its rule on integers (R93). -/
theorem recon_rule (p : Sample) (i : StepIndex) (c : Code) :
    ReconRule p i c (recon p i c).predictor (recon p i c).stepIndex (recon p i c).delta := by
  refine ⟨reconDelta_eq_deltaRule _ _, ?_, ?_⟩
  · rw [recon_predictor_toInt, clamp_eq (by decide)]
    rfl
  · rw [recon_stepIndex_toNat, clamp_eq (by decide)]

/-- One code moves a codec state by the rule of `RECON` (R93). -/
theorem codecAfter_rule (k : Codec) (c : Code) :
    ReconRule k.predictor k.stepIndex c (codecAfter k c).predictor (codecAfter k c).stepIndex
      (deltaRule (romStep k.stepIndex) c) :=
  reconDelta_eq_deltaRule (romStep k.stepIndex) c ▸ recon_rule k.predictor k.stepIndex c

/-! ### The quantiser -/

theorem toNat_decide (P : Prop) [Decidable P] : (if P then 1 else 0) = (decide P).toNat := by
  by_cases h : P <;> simp [h]

/-- The bits of a code put together from a sign and three magnitude bits (R94). -/
theorem getLsbD_code (b3 b2 b1 b0 : Bool) :
    let c := BitVec.ofNat 4 (8 * b3.toNat + 4 * b2.toNat + 2 * b1.toNat + b0.toNat)
    c.getLsbD 3 = b3 ∧ c.getLsbD 2 = b2 ∧ c.getLsbD 1 = b1 ∧ c.getLsbD 0 = b0 := by
  revert b3 b2 b1 b0
  decide

/-- The greedy comparisons leave the difference as it is, less the parts of the step they found (R94). -/
theorem sub_part (part d : Nat) :
    d = (if part ≤ d then d - part else d) + if part ≤ d then part else 0 := by
  split <;> omega

/-- The quantiser follows its rule on integers (R94). -/
theorem quantise_rule (p : Sample) (step : Nat) (x : Sample) : QuantiseRule p step x (quantise p step x) := by
  let d0 := (x.toInt - p.toInt).natAbs
  let d1 := if step ≤ d0 then d0 - step else d0
  let d2 := if step / 2 ≤ d1 then d1 - step / 2 else d1
  have hcode : quantise p step x = BitVec.ofNat 4 (8 * (decide (x.toInt - p.toInt < 0)).toNat
      + 4 * (decide (step ≤ d0)).toNat + 2 * (decide (step / 2 ≤ d1)).toNat
      + (decide (step / 4 ≤ d2)).toNat) := by
    simp only [quantise, Nat.shiftRight_eq_div_pow, Nat.pow_one, ← toNat_decide]
    rfl
  obtain ⟨h3, h2, h1, h0⟩ := getLsbD_code (decide (x.toInt - p.toInt < 0)) (decide (step ≤ d0))
    (decide (step / 2 ≤ d1)) (decide (step / 4 ≤ d2))
  rw [← hcode] at h3 h2 h1 h0
  have hd0 : (d0 : Int) = |x.toInt - p.toInt| := Int.natCast_natAbs _
  refine ⟨d0, d1, d2, hd0, ?_, ?_, ?_, ?_, ?_, ?_⟩
  · rw [h3, decide_eq_true_iff, sub_neg]
  · rw [h2, decide_eq_true_iff]
  · simpa only [h2, decide_eq_true_iff] using sub_part step d0
  · rw [h1, decide_eq_true_iff]
  · simpa only [h1, decide_eq_true_iff] using sub_part (step / 2) d1
  · rw [h0, decide_eq_true_iff]

/-- The rule of the quantiser without its intermediate values, which the bits of the code determine. -/
theorem quantiseRule_iff {p : Sample} {step : Nat} {x : Sample} {c : Code} :
    QuantiseRule p step x c ↔
      (c.getLsbD 3 = true ↔ x.toInt - p.toInt < 0) ∧
      (c.getLsbD 2 = true ↔ step ≤ (x.toInt - p.toInt).natAbs) ∧
      (c.getLsbD 1 = true ↔
        step / 2 ≤ (x.toInt - p.toInt).natAbs - (if c.getLsbD 2 then step else 0)) ∧
      (c.getLsbD 0 = true ↔
        step / 4 ≤ (x.toInt - p.toInt).natAbs - (if c.getLsbD 2 then step else 0)
          - (if c.getLsbD 1 then step / 2 else 0)) := by
  unfold QuantiseRule
  rw [sub_neg, ← Int.natCast_natAbs]
  generalize (x.toInt - p.toInt).natAbs = d
  constructor
  · rintro ⟨d0, d1, d2, h0, h3, h2, hd0, h1, hd1, h⟩
    obtain rfl : d0 = d := Int.ofNat.inj h0
    rw [hd0, Nat.add_sub_cancel, ← hd0, hd1, Nat.add_sub_cancel, ← hd1]
    exact ⟨h3, h2, h1, h⟩
  · rintro ⟨h3, h2, h1, h0⟩
    refine ⟨d, _, _, rfl, h3, h2, (Nat.sub_add_cancel ?_).symm, h1, (Nat.sub_add_cancel ?_).symm, h0⟩
    · split
      · exact h2.1 ‹_›
      · exact Nat.zero_le _
    · split
      · exact h1.1 ‹_›
      · exact Nat.zero_le _

/-- The quantiser gives a code exactly when the rule does. -/
theorem quantise_eq_iff {p : Sample} {step : Nat} {x : Sample} {c : Code} :
    quantise p step x = c ↔ QuantiseRule p step x c := by
  refine ⟨fun h => h ▸ quantise_rule p step x, fun h => ?_⟩
  obtain ⟨a3, a2, a1, a0⟩ := quantiseRule_iff.1 (quantise_rule p step x)
  obtain ⟨b3, b2, b1, b0⟩ := quantiseRule_iff.1 h
  have h3 := Bool.eq_iff_iff.2 (a3.trans b3.symm)
  have h2 := Bool.eq_iff_iff.2 (a2.trans b2.symm)
  rw [h2] at a1 a0
  have h1 := Bool.eq_iff_iff.2 (a1.trans b1.symm)
  rw [h1] at a0
  have h0 := Bool.eq_iff_iff.2 (a0.trans b0.symm)
  refine BitVec.eq_of_getLsbD_eq fun j hj => ?_
  match j, hj with
  | 0, _ => exact h0
  | 1, _ => exact h1
  | 2, _ => exact h2
  | 3, _ => exact h3

/-- From a legal index the encoder gives the code of the quantiser (R94). -/
theorem encoderGives_iff {s : State} (h : s.enc.stepIndex.toNat ≤ 88) (x : Sample) (c : Code) :
    EncoderGives s x c ↔ QuantiseRule s.enc.predictor (romStep s.enc.stepIndex) x c := by
  rw [← quantise_eq_iff]
  constructor
  · rintro ⟨t, ht, hret⟩
    obtain rfl := Host.Outcome.next.inj ((exec_encSample_of_legal h x).symm.trans ht)
    exact Ret.code.inj hret
  · intro hc
    exact ⟨_, exec_encSample_of_legal h x, congrArg Ret.code hc⟩

/-- Settles O6: each code's bits turn the greedy comparisons of the quantiser into its range. -/
theorem codesProducedInTheirRanges : Obligations.CodesProducedInTheirRanges := by
  intro s x hs
  obtain ⟨hstep, _⟩ := romStep_range s.enc.stepIndex hs
  simp only [encoderGives_iff hs, quantiseRule_iff]
  generalize romStep s.enc.stepIndex = step at hstep
  generalize x.toInt - s.enc.predictor.toInt = d
  refine ⟨?_, ?_, ?_, ?_, ?_, ?_, ?_, ?_, ?_, ?_, ?_, ?_, ?_, ?_, ?_, ?_⟩ <;> simp <;> omega

/-! ### The operations of the codec -/

/-- The code that a code row or `DEC_SAMPLE` gives the decoder (log 14). -/
def decoderCode : Instr → Option Code
  | .code0x0 => some 0x0
  | .code0x1 => some 0x1
  | .code0x2 => some 0x2
  | .code0x3 => some 0x3
  | .code0x4 => some 0x4
  | .code0x5 => some 0x5
  | .code0x6 => some 0x6
  | .code0x7 => some 0x7
  | .code0x8 => some 0x8
  | .code0x9 => some 0x9
  | .code0xA => some 0xA
  | .code0xB => some 0xB
  | .code0xC => some 0xC
  | .code0xD => some 0xD
  | .code0xE => some 0xE
  | .code0xF => some 0xF
  | .decSample c => some c
  | _ => none

/-- The code rows and `DEC_SAMPLE` run as the decoder does on their code (R95, R96 to R111). -/
theorem exec_of_decoderCode {i : Instr} {c : Code} (h : decoderCode i = some c) (s : State) :
    exec i s = decodeCode c s := by
  cases i <;> simp only [decoderCode, Option.some.injEq, reduceCtorEq] at h <;> subst h <;> rfl

/-- A code changes `DEC` and what is returned (R95). -/
theorem decodeCode_of_legal {s : State} (h : s.dec.stepIndex.toNat ≤ 88) (c : Code) :
    decodeCode c s =
      .next { s with dec := codecAfter s.dec c, ret := .sample (codecAfter s.dec c).predictor } :=
  if_pos ((codecValid_iff s.dec).2 h)

theorem not_codecValid {k : Codec} (h : 88 < k.stepIndex.toNat) : ¬codecValid k = true :=
  fun hk => absurd ((codecValid_iff k).1 hk) (Nat.not_le.2 h)

theorem stepIndex_legal_iff (i : StepIndex) : StepIndex.legal i = true ↔ i.toNat ≤ 88 :=
  decide_eq_true_iff

theorem decodeCode_of_illegal {s : State} (h : 88 < s.dec.stepIndex.toNat) (c : Code) :
    decodeCode c s = .refused .invalidCodecState :=
  if_neg (not_codecValid h)

/-- A code row moves the decoder by the delta of its magnitude bits, the way its sign bit says, and by its index
adjustment. -/
theorem codeDecodes {i : Instr} {c : Code} {s : State} {delta : Nat} {up : Bool} {adj : Int}
    (hi : decoderCode i = some c) (hs : s.dec.stepIndex.toNat ≤ 88)
    (hdelta : deltaRule (romStep s.dec.stepIndex) c = delta) (hup : c.getLsbD 3 = !up) (hadj : romIdx c = adj) :
    CodeDecodes i s delta up adj := by
  obtain ⟨_, hp, hk⟩ := codecAfter_rule s.dec c
  refine ⟨(codecAfter s.dec c).predictor, (codecAfter s.dec c).stepIndex, ?_, hadj ▸ hk,
    (exec_of_decoderCode hi s).trans (decodeCode_of_legal hs c)⟩
  rw [hp, hdelta, hup]
  cases up <;> rfl

/-- Settles O5: the magnitude bits of each row's code select the parts of its delta. -/
theorem codesMoveTheDecoder : Obligations.CodesMoveTheDecoder := by
  intro s hs
  refine ⟨?_, ?_, ?_, ?_, ?_, ?_, ?_, ?_, ?_, ?_, ?_, ?_, ?_, ?_, ?_, ?_⟩ <;>
    exact codeDecodes rfl hs (by simp [deltaRule]) rfl rfl

/-- `RECON` with a legal index returns its result and changes nothing else (R93). -/
theorem exec_recon_of_legal {i : StepIndex} (h : i.toNat ≤ 88) (p : Sample) (c : Code) (s : State) :
    exec (.recon p i c) s =
      .next (s.withRet (.recon (recon p i c).predictor (recon p i c).stepIndex (recon p i c).delta)) :=
  if_pos ((stepIndex_legal_iff i).2 h)

theorem exec_encLoad_of_legal {i : StepIndex} (h : i.toNat ≤ 88) (p : Sample) (s : State) :
    exec (.encLoad p i) s = .next (encLoad p i s) :=
  if_pos ((stepIndex_legal_iff i).2 h)

theorem exec_decLoad_of_legal {i : StepIndex} (h : i.toNat ≤ 88) (p : Sample) (s : State) :
    exec (.decLoad p i) s = .next (decLoad p i s) :=
  if_pos ((stepIndex_legal_iff i).2 h)

/-- A payload byte decodes two codes, the second against the state the first left (R62, R142). -/
theorem exec_payloadByte_of_legal {s : State} (hs : s.dec.stepIndex.toNat ≤ 88) (h l : Code) :
    exec (.payloadByte h l) s =
      .next { s with dec := codecRun s.dec [h, l], ret := .samples (decodedSamples s.dec [h, l]) } :=
  if_pos ((codecValid_iff s.dec).2 hs)

/-- Settles O7: the rule of `RECON`, and the two tables by evaluation. -/
theorem reconstructionFollowsItsRule : Obligations.ReconstructionFollowsItsRule := by
  refine ⟨fun p i c s hi => ?_, by decide +kernel, by decide⟩
  exact ⟨_, _, _, recon_rule p i c, exec_recon_of_legal hi p c s⟩

/-- Settles O8: the quantiser's code, then its reconstruction. -/
theorem encoderQuantisesAndReconstructs : Obligations.EncoderQuantisesAndReconstructs := fun x s hs =>
  ⟨codecCode s.enc x, _, _, _, quantise_rule _ _ x, codecAfter_rule s.enc _, exec_encSample_of_legal hs x⟩

/-- Settles O9: each code decoded is one reconstruction from the state before it. -/
theorem decoderReconstructsAndLoads : Obligations.DecoderReconstructsAndLoads := by
  refine ⟨fun c s hs => ?_, fun h l s hs => ?_, fun p i s hi => ?_⟩
  · exact ⟨_, _, _, codecAfter_rule s.dec c,
      (exec_of_decoderCode (i := .decSample c) rfl s).trans (decodeCode_of_legal hs c)⟩
  · exact ⟨_, _, _, _, _, _, codecAfter_rule s.dec h, codecAfter_rule (codecAfter s.dec h) l,
      exec_payloadByte_of_legal hs h l⟩
  · exact ⟨exec_encLoad_of_legal hi p s, exec_decLoad_of_legal hi p s⟩

/-- Settles O10: every operation of the codec checks the index it would use. -/
theorem illegalStepIndexStopsTheCodec : Obligations.IllegalStepIndexStopsTheCodec := by
  refine ⟨fun s hs => ⟨fun i hi => ?_, fun c => ?_, fun h l => if_neg (not_codecValid hs)⟩,
    fun s x hs => if_neg (not_codecValid hs), fun s p i c hi => ?_⟩
  · have hrow : ∃ c, decoderCode i = some c := by
      fin_cases hi <;> exact ⟨_, rfl⟩
    obtain ⟨c, hc⟩ := hrow
    exact (exec_of_decoderCode hc s).trans (decodeCode_of_illegal hs c)
  · exact decodeCode_of_illegal hs c
  · have hillegal : ¬StepIndex.legal i = true := fun h => absurd ((stepIndex_legal_iff i).1 h) (Nat.not_le.2 hi)
    exact ⟨if_neg hillegal, if_neg hillegal, if_neg hillegal⟩

/-! ### Runs of samples and codes -/

/-- The codes an encoder gives a sequence of samples (R94). -/
def encCodes (k : Codec) : List Sample → List Code
  | [] => []
  | x :: xs => codecCode k x :: encCodes (codecAfter k (codecCode k x)) xs

@[simp] theorem length_encCodes (k : Codec) (xs : List Sample) : (encCodes k xs).length = xs.length := by
  induction xs generalizing k with
  | nil => rfl
  | cons x xs ih => simp [encCodes, ih]

/-- A run of the encoder from a legal index: its codes, the predictors it passes through, and where it ends. -/
theorem encRun_of_legal (xs : List Sample) (s : State) (hs : s.enc.stepIndex.toNat ≤ 88) :
    ∃ r, EncRun s xs (encCodes s.enc xs) (decodedSamples s.enc (encCodes s.enc xs))
      { s with enc := codecRun s.enc (encCodes s.enc xs), ret := r } := by
  induction xs generalizing s with
  | nil => exact ⟨s.ret, rfl⟩
  | cons x xs ih =>
    obtain ⟨r, hr⟩ := ih ((encSample x s).withRet (.code (codecCode s.enc x))) (codecAfter_stepIndex_le _ _)
    exact ⟨r, _, exec_encSample_of_legal hs x, rfl, rfl, hr⟩

/-- A run of the decoder from a legal index: the predictors it returns, and where it ends. -/
theorem decRun_of_legal (cs : List Code) (s : State) (hs : s.dec.stepIndex.toNat ≤ 88) :
    ∃ r, DecRun s cs (decodedSamples s.dec cs) { s with dec := codecRun s.dec cs, ret := r } := by
  induction cs generalizing s with
  | nil => exact ⟨s.ret, rfl⟩
  | cons c cs ih =>
    obtain ⟨r, hr⟩ := ih ((decSample c s).withRet (.sample (codecAfter s.dec c).predictor))
      (codecAfter_stepIndex_le _ _)
    exact ⟨r, _, exec_decSample_of_legal hs c, rfl, hr⟩

/-- Settles O13: encoder and decoder run the same codes from the same codec state. -/
theorem decoderKeepsStepWithEncoder : Obligations.DecoderKeepsStepWithEncoder := by
  intro xs s u hs hu
  obtain ⟨r, henc⟩ := encRun_of_legal xs s hs
  obtain ⟨r', hdec⟩ := decRun_of_legal (encCodes s.enc xs) u (hu ▸ hs)
  rw [hu] at hdec
  exact ⟨_, _, _, _, henc, hdec, rfl, rfl, rfl⟩

/-! ### The error of one reconstruction (R117, R118) -/

/-- What is left of the difference after the parts that the code's bits found: nothing is lost, and less than the
smallest part is left unless all were found. -/
theorem quantiseRule_residue {p : Sample} {step : Nat} {x : Sample} {c : Code} (h : QuantiseRule p step x c) :
    ∃ r : Nat, (x.toInt - p.toInt).natAbs = r + (if c.getLsbD 2 then step else 0)
        + (if c.getLsbD 1 then step / 2 else 0) + (if c.getLsbD 0 then step / 4 else 0) ∧
      ((c.getLsbD 2 && c.getLsbD 1 && c.getLsbD 0) = false → r + 1 ≤ step - step / 2 - step / 4) := by
  obtain ⟨_, h2, h1, h0⟩ := quantiseRule_iff.1 h
  refine ⟨(x.toInt - p.toInt).natAbs - (if c.getLsbD 2 then step else 0)
    - (if c.getLsbD 1 then step / 2 else 0) - (if c.getLsbD 0 then step / 4 else 0), ?_⟩
  generalize (x.toInt - p.toInt).natAbs = d at h2 h1 h0
  generalize c.getLsbD 2 = b2 at h2 h1 h0
  generalize c.getLsbD 1 = b1 at h1 h0
  generalize c.getLsbD 0 = b0 at h0
  cases b2 <;> cases b1 <;> cases b0 <;> simp at h2 h1 h0 ⊢ <;> omega

/-- A code has magnitude 7 exactly when its three magnitude bits are set. -/
theorem magnitude_eq_seven_iff (c : Code) :
    c.toNat % 8 = 7 ↔ (c.getLsbD 2 && c.getLsbD 1 && c.getLsbD 0) = true := by
  revert c
  decide

/-- Settles O14: the parts found are the delta but for its baseline eighth, so the residue is the error. -/
theorem reconstructionErrorIsTheResidue : Obligations.ReconstructionErrorIsTheResidue := by
  intro x s hs
  have hrule := quantise_rule s.enc.predictor (romStep s.enc.stepIndex) x
  have hexec := exec_encSample_of_legal hs x
  obtain ⟨_, hp, _⟩ := codecAfter_rule s.enc (codecCode s.enc x)
  rw [← codecCode] at hrule
  obtain ⟨r, hr, hbound⟩ := quantiseRule_residue hrule
  obtain ⟨hsign, _⟩ := quantiseRule_iff.1 hrule
  obtain ⟨_, hstep⟩ := romStep_range s.enc.stepIndex hs
  obtain ⟨hxlo, hxhi⟩ := sample_toInt_range x
  obtain ⟨hplo, hphi⟩ := sample_toInt_range s.enc.predictor
  refine ⟨codecCode s.enc x, _, _, r, _, hexec, ?_, rfl, hp, ?_, ?_, ?_, ?_⟩
  · rw [← Int.natCast_natAbs, hr]
  · have hdelta : deltaRule (romStep s.enc.stepIndex) (codecCode s.enc x) + r =
        romStep s.enc.stepIndex / 8 + (x.toInt - s.enc.predictor.toInt).natAbs := by
      rw [hr, deltaRule]
      omega
    by_cases hneg : x.toInt - s.enc.predictor.toInt < 0
    · rw [if_pos (hsign.2 hneg), if_neg (Int.not_le.2 hneg)]
      omega
    · rw [if_neg (mt hsign.1 hneg), if_pos (Int.not_lt.1 hneg)]
      omega
  · intro h7
    exact hbound (Bool.eq_false_iff.2 (mt (magnitude_eq_seven_iff _).2 h7))
  · rw [abs_le]
    omega
  · have hdelta : deltaRule (romStep s.enc.stepIndex) (codecCode s.enc x) ≤ 61436 := by
      unfold deltaRule
      split <;> split <;> split <;> omega
    split <;> omega

end Sys2Proof.Machine

/-! ## Proofs: frames and packets (41_packetizer.md R132 to R142) -/

namespace Sys2Proof.Machine

/-! ### Guards -/

section Guards

variable {g : Prop} [Decidable g] {a : Answer} {t : State}

@[simp] theorem guard_fault_eq_next {f : Fault} : (if g then .fault f else a) = .next t ↔ ¬g ∧ a = .next t := by
  by_cases h : g <;> simp [h]

@[simp] theorem guard_refused_eq_next {r : Refusal} : (if g then .refused r else a) = .next t ↔ ¬g ∧ a = .next t := by
  by_cases h : g <;> simp [h]

@[simp] theorem guarded_or_fault_eq_next {f : Fault} : (if g then a else .fault f) = .next t ↔ g ∧ a = .next t := by
  by_cases h : g <;> simp [h]

@[simp] theorem guarded_or_refused_eq_next {r : Refusal} :
    (if g then a else .refused r) = .next t ↔ g ∧ a = .next t := by
  by_cases h : g <;> simp [h]

end Guards

/-! ### When the operations on a frame answer, and what -/

/-- `FRAME_PUSH` answers exactly with room in the frame and a legal index (R133). -/
theorem exec_framePush_eq_next {x : Sample} {s t : State} :
    exec (.framePush x) s = .next t ↔
      s.pkt.pos < s.stx.cfg.frameSamples ∧ s.enc.stepIndex.toNat ≤ 88 ∧ framePush x s = t := by
  show execFramePush x s = _ ↔ _
  simp [execFramePush, framePushEnabled, codecValid_iff]

theorem exec_framePush_of_full {s : State} (h : s.stx.cfg.frameSamples ≤ s.pkt.pos) (x : Sample) :
    exec (.framePush x) s = .fault (.notEnabled "FRAME_PUSH") := by
  show execFramePush x s = _
  simp [execFramePush, framePushEnabled, h]

theorem exec_framePush_of_illegal {s : State} (h : s.pkt.pos < s.stx.cfg.frameSamples)
    (hs : 88 < s.enc.stepIndex.toNat) (x : Sample) :
    exec (.framePush x) s = .refused .invalidCodecState := by
  show execFramePush x s = _
  simp [execFramePush, framePushEnabled, h, not_codecValid hs]

/-- `FRAME_PAD` answers exactly inside a frame with a legal index (R135). -/
theorem exec_framePad_eq_next {s t : State} :
    exec .framePad s = .next t ↔
      0 < s.pkt.pos ∧ s.pkt.pos < s.stx.cfg.frameSamples ∧ s.enc.stepIndex.toNat ≤ 88 ∧ framePad s = t := by
  show execFramePad s = _ ↔ _
  simp [execFramePad, framePadEnabled, codecValid_iff, and_assoc]

/-- `FRAME_CLOSE` answers exactly on a full frame (R136). -/
theorem exec_frameClose_eq_next {s t : State} :
    exec .frameClose s = .next t ↔ s.pkt.pos = s.stx.cfg.frameSamples ∧ frameClose s = t := by
  show execFrameClose s = _ ↔ _
  simp [execFrameClose, frameCloseEnabled]

/-- `ENC_FRAME` answers exactly on an empty frame, with samples that fit and a legal index (R138). -/
theorem exec_encFrame_eq_next {xs : List Sample} {s t : State} :
    exec (.encFrame xs) s = .next t ↔
      s.pkt.pos = 0 ∧ xs ≠ [] ∧ xs.length ≤ s.stx.cfg.frameSamples ∧ s.enc.stepIndex.toNat ≤ 88 ∧
        encFrame xs s = t := by
  show execEncFrame xs s = _ ↔ _
  simp [execEncFrame, encFrameEnabled, codecValid_iff, and_assoc]

/-! ### Nibbles of the payload buffer -/

/-- Nibble number `j` of a memory (20_memory.md R43). -/
def nibbleAt (m : Mem) (j : Nat) : Code := getNibble j (Mem.read m (j / 2))

/-- Nibble number `k` written: it alone changes (20_memory.md R43, R47). -/
theorem nibbleAt_write {m : Mem} (hm : Mem.wf m = true) (k j : Nat) (c : Code) :
    nibbleAt (Mem.write m (k / 2) (putNibble k c (Mem.read m (k / 2)))) j = if j = k then c else nibbleAt m j := by
  unfold nibbleAt
  rw [Mem.read_write hm]
  by_cases hjk : j = k
  · subst hjk
    rw [if_pos rfl, if_pos rfl, getNibble_putNibble_same]
  · rw [if_neg hjk]
    split
    · rename_i hbyte
      rw [getNibble_putNibble_other (by omega), hbyte]
    · rfl

/-- `FRAME_PUSH` stores its code at the position and nothing else (R133). -/
theorem framePush_nibbleAt {s : State} (hm : Mem.wf s.pkt.payload = true) (x : Sample) (j : Nat) :
    nibbleAt (framePush x s).pkt.payload j =
      if j = s.pkt.pos then codecCode s.enc x else nibbleAt s.pkt.payload j := by
  rw [framePush_eq]
  exact nibbleAt_write hm s.pkt.pos j _

theorem framePush_payload_wf {s : State} (hm : Mem.wf s.pkt.payload = true) (x : Sample) :
    Mem.wf (framePush x s).pkt.payload = true := by
  rw [framePush_eq]
  exact Mem.wf_write hm _ _

/-- Settles O15: the case of room is `framePush_eq`, with the encoder moved by its own code. -/
theorem framePushSnapshotsAndStores : Obligations.FramePushSnapshotsAndStores := by
  refine fun x s => ⟨fun hroom hs => ?_, fun hfull => exec_framePush_of_full hfull x,
    fun hroom hs => exec_framePush_of_illegal hroom hs x⟩
  refine ⟨codecCode s.enc x, codecAfter s.enc (codecCode s.enc x), exec_encSample_of_legal hs x, ?_⟩
  exact exec_framePush_eq_next.2 ⟨hroom, hs, framePush_eq x s⟩

/-- Settles O16, by what a write to one nibble leaves. -/
theorem framePushStoresOneNibble : Obligations.FramePushStoresOneNibble := by
  intro x s t ⟨hpayload, hfile⟩ ht
  obtain ⟨_, hs, rfl⟩ := exec_framePush_eq_next.1 ht
  have hnibble := framePush_nibbleAt hpayload x
  refine ⟨⟨_, exec_encSample_of_legal hs x, ?_⟩, fun j hj => ?_, ⟨framePush_payload_wf hpayload x, ?_⟩, ?_⟩
  · exact congrArg Ret.code ((hnibble s.pkt.pos).trans (if_pos rfl)).symm
  · exact (hnibble j).trans (if_neg hj)
  · rw [framePush_eq]
    exact hfile
  · rw [framePush_eq]

/-! ### Runs of pushes -/

/-- A run goes on from where its first part ends. -/
theorem runAll_append_of_next {is : List Instr} {s t : State} (h : runAll is s = .next t) (js : List Instr) :
    runAll (is ++ js) s = runAll js t := by
  induction is generalizing s with
  | nil =>
    obtain rfl := Host.Outcome.next.inj h
    rfl
  | cons i is ih =>
    rw [List.cons_append, runAll]
    rw [runAll] at h
    cases hi : exec i s with
    | next u =>
      rw [hi] at h
      exact ih h
    | fault f => simp [hi] at h
    | refused r => simp [hi] at h

theorem framePush_legal (x : Sample) (s : State) : (framePush x s).enc.stepIndex.toNat ≤ 88 := by
  rw [framePush_eq]
  exact codecAfter_stepIndex_le _ _

theorem framePush_pos (x : Sample) (s : State) : (framePush x s).pkt.pos = s.pkt.pos + 1 := by
  rw [framePush_eq]

theorem framePush_stx (x : Sample) (s : State) : (framePush x s).stx = s.stx := by
  rw [framePush_eq]

theorem framePushAll_stx (xs : List Sample) (s : State) : (framePushAll xs s).stx = s.stx := by
  rw [framePushAll_frame]

theorem framePushAll_legal (xs : List Sample) {s : State} (hs : s.enc.stepIndex.toNat ≤ 88) :
    (framePushAll xs s).enc.stepIndex.toNat ≤ 88 := by
  induction xs generalizing s with
  | nil => exact hs
  | cons x xs ih => exact ih (framePush_legal x s)

/-- Samples that fit the frame are pushed one after another (R133). -/
theorem runAll_framePush (xs : List Sample) (s : State) (hs : s.enc.stepIndex.toNat ≤ 88)
    (hroom : s.pkt.pos + xs.length ≤ s.stx.cfg.frameSamples) :
    runAll (xs.map .framePush) s = .next (framePushAll xs s) := by
  induction xs generalizing s with
  | nil => rfl
  | cons x xs ih =>
    rw [List.length_cons] at hroom
    rw [List.map_cons, runAll_cons_of_next (exec_framePush_eq_next.2 ⟨by omega, hs, rfl⟩)]
    refine ih _ (framePush_legal x s) ?_
    rw [framePush_pos, framePush_stx]
    omega

theorem framePad_pos {s : State} (h : s.pkt.pos ≤ s.stx.cfg.frameSamples) :
    (framePad s).pkt.pos = s.stx.cfg.frameSamples := by
  rw [framePad, framePushAll_pos, List.length_replicate]
  omega

theorem framePad_stx (s : State) : (framePad s).stx = s.stx := framePushAll_stx _ s

/-- Settles O17: padding is the run of its pushes; the guards decide the rest. -/
theorem framesArePaddedAndClosed : Obligations.FramesArePaddedAndClosed := by
  refine fun s => ⟨fun hpos hroom hs => ?_, fun h => ?_, fun h => ?_, fun h => if_neg (by simpa [frameCloseEnabled])⟩
  · refine ⟨_, exec_framePad_eq_next.2 ⟨hpos, hroom, hs, rfl⟩, framePad_pos (Nat.le_of_lt hroom), ?_⟩
    rw [← List.map_replicate]
    refine runAll_framePush _ s hs ?_
    rw [List.length_replicate]
    omega
  · show execFramePad s = _
    have hguard : framePadEnabled s = false := by
      simp only [framePadEnabled, Bool.and_eq_false_iff, decide_eq_false_iff_not]
      omega
    simp [execFramePad, hguard]
  · exact exec_frameClose_eq_next.2 ⟨h, rfl⟩

/-! ### A whole frame -/

/-- On an empty frame `ENC_FRAME` pushes its samples and as many zeros as are missing, then closes (R138). -/
theorem encFrame_eq {xs : List Sample} {s : State} (hpos : s.pkt.pos = 0) :
    encFrame xs s =
      frameClose (framePushAll (xs ++ List.replicate (s.stx.cfg.frameSamples - xs.length) 0) s) := by
  have hlen : (framePushAll xs s).pkt.pos = xs.length := by
    rw [framePushAll_pos, hpos, Nat.zero_add]
  rw [framePushAll_append]
  simp only [encFrame, framePad, framePushAll_stx, hlen]
  split
  · rfl
  · rw [Nat.sub_eq_zero_of_le (Nat.not_lt.1 ‹_›)]
    rfl

/-- Settles O18: the parts run one after another, each under its own guard. -/
theorem encodingAFrameIsItsParts : Obligations.EncodingAFrameIsItsParts := by
  refine fun xs s => ⟨fun hpos hne hlen hs => ?_, fun h => ?_⟩
  · refine ⟨_, exec_encFrame_eq_next.2 ⟨hpos, hne, hlen, hs, rfl⟩, ?_⟩
    have hpush := runAll_framePush xs s hs (by omega)
    have hpos' : (framePushAll xs s).pkt.pos = xs.length := by
      rw [framePushAll_pos, hpos, Nat.zero_add]
    have hxs : 0 < xs.length := List.length_pos_iff.2 hne
    have hstx := framePushAll_stx xs s
    rw [List.append_assoc, runAll_append_of_next hpush, encFrame]
    simp only [hstx]
    split
    · rename_i hshort
      have hpad : exec .framePad (framePushAll xs s) = .next (framePad (framePushAll xs s)) :=
        exec_framePad_eq_next.2 ⟨by omega, by rw [hpos', hstx]; exact hshort, framePushAll_legal xs hs, rfl⟩
      have hfull : (framePad (framePushAll xs s)).pkt.pos = (framePad (framePushAll xs s)).stx.cfg.frameSamples := by
        rw [framePad_stx, framePad_pos (by rw [hpos', hstx]; exact hlen)]
      rw [List.singleton_append, runAll_cons_of_next hpad, runAll_cons_of_next (exec_frameClose_eq_next.2 ⟨hfull, rfl⟩)]
      rfl
    · have hfull : (framePushAll xs s).pkt.pos = (framePushAll xs s).stx.cfg.frameSamples := by
        rw [hpos', hstx]
        omega
      rw [List.nil_append, runAll_cons_of_next (exec_frameClose_eq_next.2 ⟨hfull, rfl⟩)]
      rfl
  · show execEncFrame xs s = _
    have hguard : encFrameEnabled xs s = false := by
      rcases h with h | h | h
      · simp [encFrameEnabled, h]
      · simp [encFrameEnabled, h]
      · simp [encFrameEnabled, h]
    simp [execEncFrame, hguard]

/-! ### What a packet holds -/

theorem framePushAll_enc (xs : List Sample) (s : State) :
    (framePushAll xs s).enc = codecRun s.enc (encCodes s.enc xs) := by
  induction xs generalizing s with
  | nil => rfl
  | cons x xs ih =>
    rw [framePushAll, ih, framePush_eq]
    rfl

/-- Inside a frame the snapshot stays (R132). -/
theorem framePushAll_hdr_of_pos {s : State} (h : 0 < s.pkt.pos) (xs : List Sample) :
    (framePushAll xs s).pkt.hdrPredictor = s.pkt.hdrPredictor ∧
      (framePushAll xs s).pkt.hdrStepIndex = s.pkt.hdrStepIndex := by
  induction xs generalizing s with
  | nil => exact ⟨rfl, rfl⟩
  | cons x xs ih =>
    have hsnap := ih (s := framePush x s) (by rw [framePush_pos]; omega)
    rw [framePush_eq] at hsnap
    simpa only [if_neg (Nat.ne_of_gt h), framePushAll, framePush_eq] using hsnap

/-- The first sample of a frame takes the snapshot (R132). -/
theorem framePushAll_hdr_of_empty {s : State} (h : s.pkt.pos = 0) {xs : List Sample} (hne : xs ≠ []) :
    (framePushAll xs s).pkt.hdrPredictor = s.enc.predictor ∧
      (framePushAll xs s).pkt.hdrStepIndex = s.enc.stepIndex := by
  cases xs with
  | nil => exact absurd rfl hne
  | cons x xs =>
    have hsnap := framePushAll_hdr_of_pos (s := framePush x s) (by rw [framePush_pos]; omega) xs
    rw [framePush_eq] at hsnap
    simpa only [if_pos h, framePushAll, framePush_eq] using hsnap

theorem framePushAll_payload_wf (xs : List Sample) {s : State} (hm : Mem.wf s.pkt.payload = true) :
    Mem.wf (framePushAll xs s).pkt.payload = true := by
  induction xs generalizing s with
  | nil => exact hm
  | cons x xs ih => exact ih (framePush_payload_wf hm x)

/-- A run of pushes stores its codes from the position on and nothing else (R133, R134). -/
theorem framePushAll_nibbleAt (xs : List Sample) {s : State} (hm : Mem.wf s.pkt.payload = true) (j : Nat) :
    nibbleAt (framePushAll xs s).pkt.payload j =
      (if s.pkt.pos ≤ j then (encCodes s.enc xs)[j - s.pkt.pos]? else none).getD (nibbleAt s.pkt.payload j) := by
  induction xs generalizing s with
  | nil => simp [framePushAll, encCodes]
  | cons x xs ih =>
    have henc : (framePush x s).enc = codecAfter s.enc (codecCode s.enc x) := by rw [framePush_eq]
    rw [framePushAll, ih (framePush_payload_wf hm x), framePush_nibbleAt hm, framePush_pos, henc, encCodes]
    rcases Nat.lt_trichotomy j s.pkt.pos with hlt | heq | hgt
    · rw [if_neg (by omega), if_neg (by omega), if_neg (by omega)]
    · subst heq
      simp
    · obtain ⟨k, rfl⟩ := Nat.exists_eq_add_of_lt hgt
      have hj : s.pkt.pos + k + 1 - s.pkt.pos = s.pkt.pos + k + 1 - (s.pkt.pos + 1) + 1 := by omega
      rw [if_pos (by omega), if_neg (by omega), if_pos (by omega), hj, List.getElem?_cons_succ]

theorem readBytes_getD (m : Mem) {n k : Nat} (h : k < n) : (Mem.readBytes m 0 n).getD k 0 = Mem.read m k := by
  simp [Mem.readBytes, List.getD, h]

/-- The samples of a frame: those given, then the zeros of the padding (R138). -/
def frameSamplesGiven (xs : List Sample) (s : State) : List Sample :=
  xs ++ List.replicate (s.stx.cfg.frameSamples - xs.length) 0

theorem length_frameSamplesGiven {xs : List Sample} {s : State} (h : xs.length ≤ s.stx.cfg.frameSamples) :
    (frameSamplesGiven xs s).length = s.stx.cfg.frameSamples := by
  rw [frameSamplesGiven, List.length_append, List.length_replicate]
  omega

/-- The payload bytes of the packet that `ENC_FRAME` makes (R134). -/
def framePayload (xs : List Sample) (s : State) : List Byte :=
  Mem.readBytes (framePushAll (frameSamplesGiven xs s) s).pkt.payload 0 (paylen s.stx.cfg.frameSamples)

theorem length_framePayload (xs : List Sample) (s : State) :
    (framePayload xs s).length = (s.stx.cfg.frameSamples + 1) / 2 :=
  Mem.length_readBytes _ _ _

/-- From a clear buffer every nibble of the payload is the frame's code of its number, and 0 beyond the last. -/
theorem framePayload_nibble {xs : List Sample} {s : State} (hclear : s.pkt.payload = []) (hpos : s.pkt.pos = 0)
    {k : Nat} (hk : k / 2 < (s.stx.cfg.frameSamples + 1) / 2) :
    getNibble k ((framePayload xs s).getD (k / 2) 0) =
      (encCodes s.enc (frameSamplesGiven xs s))[k]?.getD 0 := by
  have hnibble := framePushAll_nibbleAt (frameSamplesGiven xs s) (s := s) (by rw [hclear]; rfl) k
  rw [hpos, if_pos (Nat.zero_le k), Nat.sub_zero, hclear, nibbleAt, nibbleAt] at hnibble
  rw [framePayload, paylen, readBytes_getD _ hk, hnibble, Mem.read_nil]
  simp [getNibble]

/-- The effect of `ENC_FRAME` on an empty frame: the encoder has run, and the packet waits (R138). -/
theorem encFrame_out {xs : List Sample} {s : State} (hpos : s.pkt.pos = 0) (hne : xs ≠ []) :
    (encFrame xs s).enc = codecRun s.enc (encCodes s.enc (frameSamplesGiven xs s)) ∧
      (encFrame xs s).pkt.seq = s.pkt.seq + 1 ∧
      (encFrame xs s).pkt.out =
        some (headerBytes s.pkt.seq s.enc.predictor s.enc.stepIndex ++ framePayload xs s) := by
  have hgiven : frameSamplesGiven xs s ≠ [] := by simp [frameSamplesGiven, hne]
  obtain ⟨hp, hi⟩ := framePushAll_hdr_of_empty hpos hgiven
  obtain ⟨hseq, _⟩ := framePushAll_seq (frameSamplesGiven xs s) s
  rw [encFrame_eq hpos, ← frameSamplesGiven]
  refine ⟨framePushAll_enc _ s, congrArg (· + 1) hseq, ?_⟩
  show some (framePacket _) = _
  rw [framePacket, hp, hi, hseq, framePushAll_stx]
  rfl

/-- Settles O19: the codes of the run over the frame's samples are the nibbles that the pushes stored. -/
theorem packetHoldsItsCodes : Obligations.PacketHoldsItsCodes := by
  intro xs s t hclear ht
  obtain ⟨hpos, hne, hlen, hs, rfl⟩ := exec_encFrame_eq_next.1 ht
  obtain ⟨henc, hseq, hout⟩ := encFrame_out hpos hne
  obtain ⟨r, hrun⟩ := encRun_of_legal (frameSamplesGiven xs s) s hs
  have hcodes : (encCodes s.enc (frameSamplesGiven xs s)).length = s.stx.cfg.frameSamples := by
    rw [length_encCodes, length_frameSamplesGiven hlen]
  refine ⟨_, _, _, framePayload xs s, hrun, henc, hseq, hout, length_framePayload xs s, fun k hk => ?_, fun hodd => ?_⟩
  · rw [framePayload_nibble hclear hpos (by omega), List.getElem?_eq_getElem (by omega)]
    rfl
  · rw [framePayload_nibble hclear hpos (by omega), List.getElem?_eq_none (by omega)]
    rfl

/-! ### Receiving a datagram -/

/-- A datagram of the wrong length or with an illegal index only counts and reports (R140). -/
theorem decodeDatagram_of_bad {n : Nat} {b : List Byte}
    (h : b.length ≠ 7 + paylen n ∨ 88 < (packetStepIndex b).toNat) (s : State) :
    decodeDatagram n b s =
      { s with decRejects := s.decRejects + 1, outputs := .event 8 (BitVec.ofNat 32 b.length) :: s.outputs } :=
  (if_pos h).trans (takeEvent_decReject _ s)

/-- Any other datagram is decoded from the state that its header carries (R140). -/
theorem decodeDatagram_of_good {n : Nat} {b : List Byte} (hlen : b.length = 7 + paylen n)
    (hidx : (packetStepIndex b).toNat ≤ 88) (s : State) :
    decodeDatagram n b s =
      { s with
        dec := codecRun { predictor := packetPredictor b, stepIndex := packetStepIndex b } (packetCodes b n)
        outputs := .pcmOut (packetSeq b) (decodedSamples
          { predictor := packetPredictor b, stepIndex := packetStepIndex b } (packetCodes b n)) :: s.outputs } :=
  if_neg (not_or.2 ⟨not_not.2 hlen, Nat.not_lt.2 hidx⟩)

theorem exec_pktDecode_of_unwritten {s : State} (h : s.cfg.sampleRate = none ∨ s.cfg.frameMs = none)
    (b : List Byte) : exec (.pktDecode b) s = .refused .decodeConfigUnwritten := by
  show receiveDatagram b s = _
  unfold receiveDatagram
  split
  · simp_all
  · rfl

/-- With both registers written a datagram is received at their frame length, unless that is 0 (R140). -/
theorem exec_pktDecode_of_written {s : State} {rate ms : Nat} (hrate : s.cfg.sampleRate = some rate)
    (hms : s.cfg.frameMs = some ms) (b : List Byte) :
    exec (.pktDecode b) s =
      if rate * ms / 1000 = 0 then .refused .frameLengthZero
      else .next (decodeDatagram (rate * ms / 1000) b s) := by
  show receiveDatagram b s = _
  simp only [receiveDatagram, hrate, hms]
  rfl

/-- What a packet's header and payload read as (R63, R74). -/
theorem packet_read (seq : Seq) (p : Sample) (i : StepIndex) (payload : List Byte) :
    packetSeq (headerBytes seq p i ++ payload) = seq ∧ packetPredictor (headerBytes seq p i ++ payload) = p ∧
      packetStepIndex (headerBytes seq p i ++ payload) = i ∧
      (headerBytes seq p i ++ payload).length = 7 + payload.length ∧
      ∀ n, packetCodes (headerBytes seq p i ++ payload) n =
        (List.range n).map fun j => getNibble j (payload.getD (j / 2) 0) := by
  refine ⟨word32_extract seq, word16_extract p, rfl, ?_, fun n => ?_⟩
  · exact Nat.add_comm payload.length 7
  · refine List.map_congr_left fun j _ => ?_
    show getNibble j ((headerBytes seq p i ++ payload).getD (7 + j / 2) 0) = _
    rw [Nat.add_comm]
    rfl

/-- A packet of the right length with a legal index decodes to the codes of its payload (R140, R142). -/
theorem exec_pktDecode_of_packet {s : State} {rate ms : Nat} (hrate : s.cfg.sampleRate = some rate)
    (hms : s.cfg.frameMs = some ms) (hn : 0 < rate * ms / 1000) (seq : Seq) (p : Sample) {i : StepIndex}
    (hi : i.toNat ≤ 88) {payload : List Byte} (hlen : payload.length = (rate * ms / 1000 + 1) / 2) :
    let cs := (List.range (rate * ms / 1000)).map fun j => getNibble j (payload.getD (j / 2) 0)
    exec (.pktDecode (headerBytes seq p i ++ payload)) s =
      .next { s with
        dec := codecRun { predictor := p, stepIndex := i } cs
        outputs := .pcmOut seq (decodedSamples { predictor := p, stepIndex := i } cs) :: s.outputs } := by
  obtain ⟨hseq, hp, hidx, hlength, hcodes⟩ := packet_read seq p i payload
  rw [exec_pktDecode_of_written hrate hms, if_neg (Nat.ne_of_gt hn),
    decodeDatagram_of_good (hlength.trans (congrArg (7 + ·) hlen)) (hidx ▸ hi), hseq, hp, hidx, hcodes]

/-- Settles O21: the checks of R140 in their order, and the reading of R74. -/
theorem datagramsAreDecodedOrRejected : Obligations.DatagramsAreDecodedOrRejected := by
  refine ⟨fun b s => ⟨fun h => exec_pktDecode_of_unwritten h b, fun rate ms hrate hms => ?_⟩,
    fun seq p i payload s => ⟨rfl, fun rate ms hrate hms hn hlen hi => ?_⟩⟩
  · have hexec := exec_pktDecode_of_written hrate hms b
    refine ⟨fun hn => hexec.trans (if_pos hn), fun hn hbad => ?_, fun hn hlen hidx seq p hseq hp => ?_⟩
    · exact hexec.trans ((if_neg (Nat.ne_of_gt hn)).trans (congrArg _ (decodeDatagram_of_bad hbad s)))
    · have hseq' : packetSeq b = seq := by
        simp only [packetSeq, byteAt, ← hseq, BitVec.ofNat_toNat, BitVec.setWidth_eq]
      have hp' : packetPredictor b = p := by
        simp only [packetPredictor, byteAt, ← hp, BitVec.ofNat_toNat, BitVec.setWidth_eq]
      refine hexec.trans ((if_neg (Nat.ne_of_gt hn)).trans (congrArg _ ?_))
      rw [decodeDatagram_of_good hlen hidx, hseq', hp']
      rfl
  · exact exec_pktDecode_of_packet hrate hms hn seq p hi hlen

/-- Settles O20: the packet carries the state before the frame and its codes, and the decoder runs them from there. -/
theorem packetsDecodeAlone : Obligations.PacketsDecodeAlone := by
  intro xs s t u b rate ms hclear ht hout hrate hms hn
  obtain ⟨hpos, hne, hlen, hs, rfl⟩ := exec_encFrame_eq_next.1 ht
  obtain ⟨henc, _, hpacket⟩ := encFrame_out hpos hne
  obtain rfl := Option.some.inj (hpacket.symm.trans hout)
  obtain ⟨r, hrun⟩ := encRun_of_legal (frameSamplesGiven xs s) s hs
  have hxs : 0 < xs.length := List.length_pos_iff.2 hne
  have hcodes : (List.range s.stx.cfg.frameSamples).map (fun j => getNibble j ((framePayload xs s).getD (j / 2) 0)) =
      encCodes s.enc (frameSamplesGiven xs s) := by
    refine List.ext_getElem (by simp [length_frameSamplesGiven hlen]) fun k hk hk' => ?_
    rw [List.length_map, List.length_range] at hk
    rw [List.getElem_map, List.getElem_range, framePayload_nibble hclear hpos (by omega),
      List.getElem?_eq_getElem hk']
    rfl
  refine ⟨_, _, _, hrun, ?_⟩
  have hdec := exec_pktDecode_of_packet hrate hms (by omega) s.pkt.seq s.enc.predictor hs
    (payload := framePayload xs s) (by rw [length_framePayload, hn])
  rw [hn, hcodes] at hdec
  rw [henc]
  exact hdec

end Sys2Proof.Machine

/-! ## Proofs: the pacer and the streaming transport (42_pacer.md, 43_transport.md) -/

namespace Sys2Proof.Machine

/-! ### The pacer -/

theorem fitsTime_iff (t : Nat) : fitsTime t = true ↔ t < 2 ^ 64 := decide_eq_true_iff

/-- The target of the schedule for a count, on the latched record of a state (R152, the reference `PacerOnSchedule`). -/
def scheduled (c : StxCfg) (start k : Nat) : Nat :=
  start + k * c.frameMs * c.paceNum * 1000000 / (c.paceDen * 1000)

/-- With a divisor the target of the new count is the schedule's (R152, R153). -/
theorem markTarget_of_den {s : State} (h : s.stx.cfg.paceDen ≠ 0) :
    markTarget s = scheduled s.stx.cfg s.pacer.startTime (s.pacer.framesSent + 1) := if_neg h

/-- Without one the target is a free value that fits the time base (log 9). -/
theorem markTarget_lt_of_den {s : State} (h : s.stx.cfg.paceDen = 0) : markTarget s < 2 ^ 64 := by
  rw [markTarget, paceTarget, if_pos h]
  exact BitVec.isLt _

/-- `PACE_MARK` answers exactly when the new target fits the time base (R153, R274). -/
theorem exec_paceMark_eq_next {s t : State} :
    exec .paceMark s = .next t ↔ markTarget s < 2 ^ 64 ∧ paceMark s = t := by
  show execPaceMark s = _ ↔ _
  rw [execPaceMark, guarded_or_refused_eq_next, fitsTime_iff, Host.Outcome.next.injEq]

/-- `TICK` answers exactly for a time that is not earlier (R160). -/
theorem exec_tick_eq_next {w : TimeWord} {s t : State} :
    exec (.tick w) s = .next t ↔ s.now ≤ w.toNat ∧ s.withNow w.toNat = t := by
  show execTick w s = _ ↔ _
  rw [execTick, guarded_or_refused_eq_next, Host.Outcome.next.injEq]

/-- Settles O22, rule by rule. -/
theorem pacerAnchorsGatesAndMarks : Obligations.PacerAnchorsGatesAndMarks := by
  intro s
  refine ⟨rfl, rfl, fun w => ⟨fun h => exec_tick_eq_next.2 ⟨h, rfl⟩, fun h => if_neg (Nat.not_le.2 h)⟩,
    fun hden hfits => ?_, fun hden hover => ?_, fun hden => ?_⟩
  · exact exec_paceMark_eq_next.2 ⟨markTarget_of_den hden ▸ hfits, by rw [paceMark_eq, markTarget_of_den hden]; rfl⟩
  · refine if_neg ?_
    rw [fitsTime_iff, markTarget_of_den hden]
    exact Nat.not_lt.2 hover
  · exact ⟨_, markTarget_lt_of_den hden, exec_paceMark_eq_next.2 ⟨markTarget_lt_of_den hden, rfl⟩⟩

/-- On a schedule with a divisor, later counts have later targets (R152). -/
theorem scheduled_mono (c : StxCfg) (start : Nat) {j k : Nat} (h : j ≤ k) :
    scheduled c start j ≤ scheduled c start k := by
  refine Nat.add_le_add_left (Nat.div_le_div_right ?_) start
  exact Nat.mul_le_mul_right _ (Nat.mul_le_mul_right _ (Nat.mul_le_mul_right _ h))

/-- Marks one after another keep the anchor and set the target of their count, as long as it fits (R153). -/
theorem runAll_paceMark (k : Nat) (s : State) (hden : s.stx.cfg.paceDen ≠ 0)
    (htarget : s.pacer.targetTime = scheduled s.stx.cfg s.pacer.startTime s.pacer.framesSent)
    (hfits : scheduled s.stx.cfg s.pacer.startTime (s.pacer.framesSent + k) < 2 ^ 64) :
    ∃ t, runAll (List.replicate k .paceMark) s = .next t ∧
      t.pacer =
        { startTime := s.pacer.startTime, framesSent := s.pacer.framesSent + k
          targetTime := scheduled s.stx.cfg s.pacer.startTime (s.pacer.framesSent + k) } := by
  induction k generalizing s with
  | zero => exact ⟨s, rfl, by rw [Nat.add_zero, ← htarget]⟩
  | succ k ih =>
    have hmark : markTarget s < 2 ^ 64 := by
      rw [markTarget_of_den hden]
      exact lt_of_le_of_lt (scheduled_mono _ _ (by omega)) hfits
    have hcount : s.pacer.framesSent + (k + 1) = s.pacer.framesSent + 1 + k := by omega
    rw [hcount] at hfits ⊢
    obtain ⟨t, hrun, ht⟩ := ih (paceMark s) hden (markTarget_of_den hden) hfits
    exact ⟨t, (runAll_cons_of_next (exec_paceMark_eq_next.2 ⟨hmark, rfl⟩) _).trans hrun, ht⟩

/-- At the reference values a frame takes 51000 ticks (R152, R158). -/
theorem reference_product (k : Nat) : k * 60 * 17 * 1000000 / (20 * 1000) = 51000 * k := by omega

/-- Settles O23, by induction on the marks after the anchor. -/
theorem scheduleDoesNotDrift : Obligations.ScheduleDoesNotDrift := by
  have hrun (k : Nat) (s : State) (hden : s.stx.cfg.paceDen ≠ 0)
      (hfits : scheduled s.stx.cfg s.now k < 2 ^ 64) :
      ∃ t, runAll (.paceAnchor :: List.replicate k .paceMark) s = .next t ∧
        t.pacer = { startTime := s.now, framesSent := k, targetTime := scheduled s.stx.cfg s.now k } := by
    have hzero : s.now = scheduled s.stx.cfg s.now 0 := by simp [scheduled]
    have hmarks := runAll_paceMark k (paceAnchor s) hden hzero
    rw [show (paceAnchor s).pacer.framesSent + k = k from Nat.zero_add k] at hmarks
    exact hmarks hfits
  refine ⟨hrun, fun k s hms hnum hden hfits => ?_⟩
  have href : scheduled s.stx.cfg s.now k = s.now + 51000 * k := by
    rw [scheduled, hms, hnum, hden, reference_product]
  have := hrun k s (by omega) (href ▸ hfits)
  rwa [href] at this

/-! ### Starting a stream -/

theorem streamStart_of_running {s : State} (h : s.stx.state ≠ .idle) (mode : Mode) (loop : Bool) :
    exec (.streamStart mode loop) s = .next s := if_pos h

theorem streamStart_of_latched {s : State} (h : s.stx.state = .idle) {r : StxCfg} (hr : latchStream s.cfg = .ok r)
    (mode : Mode) (loop : Bool) : exec (.streamStart mode loop) s = .next (startStream mode loop r s) := by
  show execStreamStart mode loop s = _
  simp [execStreamStart, h, hr]

theorem streamStart_of_not_latched {s : State} (h : s.stx.state = .idle) {r : Refusal}
    (hr : latchStream s.cfg = .error r) (mode : Mode) (loop : Bool) :
    exec (.streamStart mode loop) s = .refused r := by
  show execStreamStart mode loop s = _
  simp [execStreamStart, h, hr]

/-- The effect of a start: the record latched, encoder, frame and pacer fresh, nothing remembered (R167). -/
theorem startStream_eq (mode : Mode) (loop : Bool) (r : StxCfg) (s : State) :
    startStream mode loop r s =
      { s with
        enc := { predictor := 0, stepIndex := 0 }
        pkt := { s.pkt with seq := 0, pos := 0, payload := [], out := none }
        pacer := { startTime := s.now, framesSent := 0, targetTime := s.now }
        playback := { pass := [], replay := none }
        stx := { s.stx with state := .filling, mode := mode, loop := loop, eof := false, cfg := r } } := rfl

theorem latchStream_of_unwritten {c : CfgRegs}
    (h : c.destAddr = none ∨ c.destPort = none ∨ c.sampleRate = none ∨ c.channels = none ∨ c.frameMs = none ∨
      c.paceNum = none ∨ c.paceDen = none) : latchStream c = .error .streamConfigUnwritten := by
  unfold latchStream
  split
  · simp_all
  · rfl

/-- With every register written the latch decides on their values (R167, R131). -/
theorem latchStream_of_written {c : CfgRegs} {addr port rate channels ms num den : Nat}
    (haddr : c.destAddr = some addr) (hport : c.destPort = some port) (hrate : c.sampleRate = some rate)
    (hchannels : c.channels = some channels) (hms : c.frameMs = some ms) (hnum : c.paceNum = some num)
    (hden : c.paceDen = some den) :
    latchStream c =
      if channels ≠ 1 ∨ rate = 0 ∨ ms = 0 ∨ den = 0 ∨ rate * ms / 1000 = 0 then .error .streamConfigIllegal
      else .ok { frameSamples := rate * ms / 1000, frameMs := ms, paceNum := num, paceDen := den
                 destAddr := addr, destPort := port } := by
  simp only [latchStream, haddr, hport, hrate, hchannels, hms, hnum, hden]
  rfl

/-- Settles O25: the guard, then the latch, then the effect. -/
theorem streamStartLatchesAndAnchors : Obligations.StreamStartLatchesAndAnchors := by
  refine fun mode loop s => ⟨fun h => streamStart_of_running h mode loop, fun h => ⟨fun hnone => ?_, ?_⟩⟩
  · exact streamStart_of_not_latched h (latchStream_of_unwritten hnone) mode loop
  · intro addr port rate channels ms num den haddr hport hrate hchannels hms hnum hden
    have hlatch := latchStream_of_written haddr hport hrate hchannels hms hnum hden
    refine ⟨fun hbad => streamStart_of_not_latched h (hlatch.trans (if_pos hbad)) mode loop,
      fun h1 h2 h3 h4 h5 => streamStart_of_latched h (hlatch.trans (if_neg ?_)) mode loop⟩
    simp only [h1, h2, h3, h4, h5, ne_eq, not_true_eq_false, or_self, not_false_eq_true]

/-! ### Samples -/

theorem sampleReady_iff (s : State) : sampleReady s = true ↔ s.stx.state = .filling ∧ s.stx.eof = false := by
  simp [sampleReady]

theorem sampleReady_eq_false {s : State} (h : s.stx.state ≠ .filling ∨ s.stx.eof = true) : sampleReady s = false := by
  rcases h with h | h <;> simp [sampleReady, h]

/-- The state after a sample taken from a source that remembers `p`: the frame grows, and a full one waits as a packet
(R168). -/
def sampleTaken (x : Sample) (p : Playback) (s : State) : State :=
  if s.pkt.pos + 1 = s.stx.cfg.frameSamples then
    { s with
      enc := (framePush x s).enc
      pkt := (frameClose (framePush x s)).pkt
      playback := p
      stx := { s.stx with state := .ready } }
  else { s with enc := (framePush x s).enc, pkt := (framePush x s).pkt, playback := p }

theorem exec_pcmIn_of_supplied {s : State} (hready : sampleReady s = true)
    (hroom : s.pkt.pos < s.stx.cfg.frameSamples) (hs : s.enc.stepIndex.toNat ≤ 88) {x : Sample} {p : Playback}
    (hp : Supplies s.stx.mode x s.playback p) : exec (.pcmIn x) s = .next (sampleTaken x p s) := by
  show execPcmIn x s = _
  simp only [execPcmIn, hready, framePushEnabled, hroom, decide_true, (codecValid_iff s.enc).2 hs,
    takeSample_eq_some.2 hp, Bool.not_true, Bool.false_eq_true, if_false]
  simp only [sampleTaken, framePush_eq, State.withPlayback]
  split <;> rfl

theorem exec_pcmIn_of_not_supplied {s : State} (hready : sampleReady s = true)
    (hroom : s.pkt.pos < s.stx.cfg.frameSamples) (hs : s.enc.stepIndex.toNat ≤ 88) {x : Sample}
    (hno : ¬∃ p, Supplies s.stx.mode x s.playback p) : exec (.pcmIn x) s = .refused .sourceNotReplayed := by
  have hnone : takeSample s.stx.mode x s.playback = none :=
    Option.eq_none_iff_forall_ne_some.2 fun p hp => hno ⟨p, takeSample_eq_some.1 hp⟩
  show execPcmIn x s = _
  simp [execPcmIn, hready, framePushEnabled, hroom, (codecValid_iff s.enc).2 hs, hnone]

/-- `PCM_IN` answers exactly from a ready port with room and a legal index, for a sample the source may supply (R168,
R268). -/
theorem exec_pcmIn_eq_next {x : Sample} {s t : State} :
    exec (.pcmIn x) s = .next t ↔
      sampleReady s = true ∧ s.pkt.pos < s.stx.cfg.frameSamples ∧ s.enc.stepIndex.toNat ≤ 88 ∧
        ∃ p, Supplies s.stx.mode x s.playback p ∧ sampleTaken x p s = t := by
  constructor
  · intro hexec
    have hguards : execPcmIn x s = .next t := hexec
    simp only [execPcmIn, guard_fault_eq_next, guard_refused_eq_next, framePushEnabled, codecValid_iff,
      Bool.not_eq_true', ← Bool.not_eq_true, not_not, decide_eq_true_iff] at hguards
    obtain ⟨hready, hroom, hs, _⟩ := hguards
    refine ⟨hready, hroom, hs, ?_⟩
    by_cases hp : ∃ p, Supplies s.stx.mode x s.playback p
    · obtain ⟨p, hp⟩ := hp
      exact ⟨p, hp, Host.Outcome.next.inj ((exec_pcmIn_of_supplied hready hroom hs hp).symm.trans hexec)⟩
    · rw [exec_pcmIn_of_not_supplied hready hroom hs hp] at hexec
      simp at hexec
  · rintro ⟨hready, hroom, hs, p, hp, rfl⟩
    exact exec_pcmIn_of_supplied hready hroom hs hp

/-- Settles O26: the checks of R168 in their order, and the frame as `FRAME_PUSH` and `FRAME_CLOSE` leave it. -/
theorem samplesFillFrames : Obligations.SamplesFillFrames := by
  refine fun x s => ⟨fun h => ?_, fun hfilling heof => ⟨fun hroom hs => ⟨fun p hp => ?_, fun hno => ?_⟩,
    fun hfull => ?_, fun hroom hs => ?_⟩⟩
  · show execPcmIn x s = _
    simp [execPcmIn, sampleReady_eq_false h]
  all_goals have hready : sampleReady s = true := (sampleReady_iff s).2 ⟨hfilling, heof⟩
  · refine ⟨_, exec_framePush_eq_next.2 ⟨hroom, hs, rfl⟩, fun hshort => ?_, fun hfull => ?_⟩
    · refine (exec_pcmIn_of_supplied hready hroom hs hp).trans (congrArg _ ?_)
      simp only [sampleTaken, if_neg hshort, framePush_eq]
    · refine ⟨_, exec_frameClose_eq_next.2 ⟨?_, rfl⟩, (exec_pcmIn_of_supplied hready hroom hs hp).trans (congrArg _ ?_)⟩
      · rw [framePush_pos, framePush_stx, hfull]
      · simp only [sampleTaken, if_pos hfull, frameClose_eq, framePush_eq]
  · exact exec_pcmIn_of_not_supplied hready hroom hs hno
  · show execPcmIn x s = _
    simp [execPcmIn, hready, framePushEnabled, hfull]
  · show execPcmIn x s = _
    simp [execPcmIn, hready, framePushEnabled, hroom, not_codecValid hs]

/-! ### The end of the source -/

/-- The state after the end of a pass on a frame boundary (R169, R171). -/
def passEnded (s : State) : State :=
  { s with stx := { s.stx with state := if s.stx.loop then .loopWait else .idle } }

/-- The state after an open frame is padded and closed at the end of a pass (R169). -/
def lastFrameClosed (s : State) : State :=
  { s with
    enc := (framePad s).enc
    pkt := (frameClose (framePad s)).pkt
    stx := { s.stx with eof := true, state := .ready } }

theorem framePad_frame (s : State) : framePad s = { s with enc := (framePad s).enc, pkt := (framePad s).pkt } :=
  framePushAll_frame _ s

/-- `PCM_EOF` answers exactly when the source may end its pass, on a frame boundary or inside a frame with a legal index
(R169, R268). -/
theorem exec_pcmEof_eq_next {s t : State} :
    exec .pcmEof s = .next t ↔
      sampleReady s = true ∧ MayEnd s.stx.mode s.playback ∧
        ((s.pkt.pos = 0 ∧ passEnded s = t) ∨
          (0 < s.pkt.pos ∧ s.pkt.pos < s.stx.cfg.frameSamples ∧ s.enc.stepIndex.toNat ≤ 88 ∧
            lastFrameClosed s = t)) := by
  have hclosed : toReady ((frameClose (framePad s)).withStx { (frameClose (framePad s)).stx with eof := true }) =
      lastFrameClosed s := by
    rw [lastFrameClosed, frameClose_eq, framePad_frame]
    rfl
  show execPcmEof s = _ ↔ _
  simp only [execPcmEof, hclosed, guard_fault_eq_next, guard_refused_eq_next, ← passMayEnd_iff, Bool.not_eq_true',
    Bool.not_eq_false]
  refine and_congr_right fun _ => and_congr_right fun _ => ?_
  by_cases hpos : 0 < s.pkt.pos
  · rw [if_pos hpos]
    simp [framePadEnabled, hpos, Nat.ne_of_gt hpos, codecValid_iff]
  · rw [if_neg hpos]
    simp [Nat.eq_zero_of_not_pos hpos, passEnded, State.withStx]

/-- Settles O27: the checks of R169 in their order, and the frame as `FRAME_PAD` and `FRAME_CLOSE` leave it. -/
theorem endOfSourceClosesTheFrame : Obligations.EndOfSourceClosesTheFrame := by
  refine fun s => ⟨fun h => ?_, fun hfilling heof hend => ?_, fun hfilling heof hend => ?_⟩
  · show execPcmEof s = _
    simp [execPcmEof, sampleReady_eq_false h]
  all_goals have hready : sampleReady s = true := (sampleReady_iff s).2 ⟨hfilling, heof⟩
  · show execPcmEof s = _
    simp [execPcmEof, hready, mt passMayEnd_iff.1 hend]
  · have hmay := passMayEnd_iff.2 hend
    refine ⟨fun hpos => ?_, fun hpos hroom hs => ?_, fun hpos hfull => ?_, fun hpos hroom hs => ?_⟩
    · exact exec_pcmEof_eq_next.2 ⟨hready, hend, .inl ⟨hpos, rfl⟩⟩
    · have hpad : (framePad s).pkt.pos = (framePad s).stx.cfg.frameSamples := by
        rw [framePad_stx, framePad_pos (Nat.le_of_lt hroom)]
      refine ⟨_, _, exec_framePad_eq_next.2 ⟨hpos, hroom, hs, rfl⟩, exec_frameClose_eq_next.2 ⟨hpad, rfl⟩,
        exec_pcmEof_eq_next.2 ⟨hready, hend, .inr ⟨hpos, hroom, hs, ?_⟩⟩⟩
      rw [lastFrameClosed, frameClose_eq, framePad_frame]
    · show execPcmEof s = _
      simp [execPcmEof, hready, hmay, hpos, framePadEnabled, hfull]
    · show execPcmEof s = _
      simp [execPcmEof, hready, hmay, hpos, framePadEnabled, hroom, not_codecValid hs]

/-! ### The pace gate, the loop and the send -/

/-- The gate holds back file mode until the target (R154). -/
theorem paceGate_iff (s : State) : paceGate s = true ↔ s.stx.mode = .live ∨ s.pacer.targetTime ≤ s.now := by
  simp [paceGate]

theorem paceGate_eq_false {s : State} (h : s.stx.mode = .file ∧ s.now < s.pacer.targetTime) : paceGate s = false := by
  simp [paceGate, h]

theorem loopRestartEnabled_iff (s : State) :
    loopRestartEnabled s = true ↔ s.stx.state = .loopWait ∧ (s.stx.mode = .live ∨ s.pacer.targetTime ≤ s.now) := by
  rw [loopRestartEnabled, Bool.and_eq_true, decide_eq_true_iff, paceGate_iff]

theorem sendFrameEnabled_iff (s : State) :
    sendFrameEnabled s = true ↔ s.stx.state = .ready ∧ (s.stx.mode = .live ∨ s.pacer.targetTime ≤ s.now) := by
  rw [sendFrameEnabled, Bool.and_eq_true, decide_eq_true_iff, paceGate_iff]

/-- The state after a loop restart (R170). -/
def restarted (s : State) : State :=
  { s with
    enc := { predictor := 0, stepIndex := 0 }
    pacer := { startTime := s.now, framesSent := 0, targetTime := s.now }
    playback := rewound s.stx.mode s.playback
    stx := { s.stx with state := .filling }
    outputs := .pcmRewind :: s.outputs }

/-- `LOOP_RESTART` answers exactly when enabled (R170). -/
theorem exec_loopRestart_eq_next {s t : State} :
    exec .loopRestart s = .next t ↔ loopRestartEnabled s = true ∧ restarted s = t := by
  show execLoopRestart s = _ ↔ _
  simp only [execLoopRestart, guard_fault_eq_next, Bool.not_eq_true', Bool.not_eq_false, Host.Outcome.next.injEq]
  rfl

theorem rewound_eq (m : Mode) (p : Playback) :
    rewound m p = if m = .live then p else { p with replay := some p.pass } := by
  cases m <;> rfl

/-- Settles O28: the guard, and the effect of R170. -/
theorem loopRestartResetsEncoderAndAnchor : Obligations.LoopRestartResetsEncoderAndAnchor := by
  refine fun s => ⟨fun hwait hgate => ?_, fun h => ?_⟩
  · rw [← rewound_eq]
    exact exec_loopRestart_eq_next.2 ⟨(loopRestartEnabled_iff s).2 ⟨hwait, hgate⟩, rfl⟩
  · have hguard : loopRestartEnabled s = false := by
      rcases h with h | h
      · simp [loopRestartEnabled, h]
      · simp [loopRestartEnabled, paceGate_eq_false h]
    show execLoopRestart s = _
    simp [execLoopRestart, hguard]

/-- The state after a send: the packet is gone whatever the port answers, the pacer has counted it, and the pass goes on
or ends (R171, R232). -/
def frameSent (r : SendResult) (b : List Byte) (s : State) : State :=
  { s with
    pkt := { s.pkt with out := none }
    pacer := { s.pacer with framesSent := s.pacer.framesSent + 1, targetTime := markTarget s }
    stx := { s.stx with
      eof := false
      state := if s.stx.eof then (if s.stx.loop then .loopWait else .idle) else .filling
      txFailCount := s.stx.txFailCount + (if r = .fail then 1 else 0) }
    outputs := (if r = .fail then [.event 1 (s.pkt.seq - 1)] else [])
      ++ .dgram s.stx.cfg.destAddr s.stx.cfg.destPort b :: s.outputs }

/-- With the packet that waits, an enabled `SEND_FRAME` sends it unless the new target does not fit (R171, R274). -/
theorem exec_sendFrame_of_enabled {s : State} (h : sendFrameEnabled s = true) {b : List Byte}
    (hout : s.pkt.out = some b) (r : SendResult) :
    exec (.sendFrame r) s =
      if markTarget s < 2 ^ 64 then .next (frameSent r b s) else .refused .timeOverflow := by
  have hsent (eof : Bool) (heof : s.stx.eof = eof) :
      afterSend (paceMark ((if r = .fail then takeEvent .txSendFail (s.pkt.seq - 1)
        (emit (.dgram s.stx.cfg.destAddr s.stx.cfg.destPort b) s)
        else emit (.dgram s.stx.cfg.destAddr s.stx.cfg.destPort b) s).withPkt
        { (if r = .fail then takeEvent .txSendFail (s.pkt.seq - 1)
          (emit (.dgram s.stx.cfg.destAddr s.stx.cfg.destPort b) s)
          else emit (.dgram s.stx.cfg.destAddr s.stx.cfg.destPort b) s).pkt with out := none })) =
      frameSent r b s := by
    cases r <;> cases eof <;>
      simp only [afterSend, paceMark_eq, frameSent, takeEvent_txSendFail, emit_eq, State.withPkt, State.withStx, heof,
        if_true, if_false, reduceCtorEq, Bool.false_eq_true] <;> rfl
  show execSendFrame r s = _
  simp only [execSendFrame, h, hout, hsent _ rfl, Bool.not_true, Bool.false_eq_true, if_false]
  by_cases hfits : markTarget s < 2 ^ 64
  · rw [if_pos hfits, (fitsTime_iff _).2 hfits]
    rfl
  · rw [if_neg hfits, Bool.eq_false_iff.2 (mt (fitsTime_iff _).1 hfits)]
    rfl

/-- `SEND_FRAME` answers exactly when enabled, with a packet and a new target that fits (R171). -/
theorem exec_sendFrame_eq_next {r : SendResult} {s t : State} :
    exec (.sendFrame r) s = .next t ↔
      sendFrameEnabled s = true ∧ ∃ b, s.pkt.out = some b ∧ markTarget s < 2 ^ 64 ∧ frameSent r b s = t := by
  by_cases h : sendFrameEnabled s = true
  · cases hout : s.pkt.out with
    | none =>
      show execSendFrame r s = _ ↔ _
      simp [execSendFrame, h, hout]
    | some b =>
      rw [exec_sendFrame_of_enabled h hout, guarded_or_refused_eq_next, Host.Outcome.next.injEq]
      simp [h]
  · show execSendFrame r s = _ ↔ _
    simp [execSendFrame, h]

/-- Settles O29: the guard, then the packet, then the target, then the effect of R171. -/
theorem sendFrameOffersThePacketOnce : Obligations.SendFrameOffersThePacketOnce := by
  refine fun r s => ⟨fun h => ?_, fun hready hgate => ⟨fun hnone => ?_, fun b hout => ?_⟩⟩
  · have hguard : sendFrameEnabled s = false := by
      rcases h with h | h
      · simp [sendFrameEnabled, h]
      · simp [sendFrameEnabled, paceGate_eq_false h]
    show execSendFrame r s = _
    simp [execSendFrame, hguard]
  all_goals have hguard := (sendFrameEnabled_iff s).2 ⟨hready, hgate⟩
  · show execSendFrame r s = _
    simp [execSendFrame, hguard, hnone]
  · have hexec := exec_sendFrame_of_enabled hguard hout r
    refine ⟨fun hden hfits => ?_, fun hden hover => ?_, fun hden => ?_⟩
    · have htarget := markTarget_of_den hden
      rw [if_pos (htarget ▸ hfits), frameSent, htarget] at hexec
      exact hexec
    · rw [hexec, if_neg]
      rw [markTarget_of_den hden]
      exact Nat.not_lt.2 hover
    · exact ⟨_, markTarget_lt_of_den hden, hexec.trans (if_pos (markTarget_lt_of_den hden))⟩

/-- Settles O24: an open gate in file mode says that the target has come, and the send sets the next one. -/
theorem packetsNeverLeaveEarly : Obligations.PacketsNeverLeaveEarly := by
  intro r s t hsched hden hfile hexec
  obtain ⟨henabled, b, _, _, rfl⟩ := exec_sendFrame_eq_next.1 hexec
  obtain ⟨_, hgate⟩ := (sendFrameEnabled_iff s).1 henabled
  rw [hfile] at hgate
  refine ⟨hsched hden ▸ hgate.resolve_left (by simp), rfl, rfl, rfl, fun _ => markTarget_of_den hden⟩

/-! ### Cancelling -/

theorem xferActive_iff (x : XferState) :
    xferActive x = true ↔ x = .negotiating ∨ x = .sendingChunk ∨ x = .awaitingAck := by
  cases x <;> simp [xferActive]

/-- The state after `CANCEL` (R174, R210, R238). -/
def cancelled (s : State) : State :=
  { s with
    pkt := if s.stx.state = .idle then s.pkt else { s.pkt with out := none, pos := 0, payload := [] }
    stx := if s.stx.state = .idle then s.stx else { s.stx with eof := false, state := .idle }
    xfer := if xferActive s.xfer.state then { s.xfer with state := .abortedCancelled } else s.xfer
    outputs := cancelReports s ++ s.outputs }

/-- `CANCEL` always answers (R174, R210). -/
theorem exec_cancel (s : State) : exec .cancel s = .next (cancelled s) := by
  refine congrArg Host.Outcome.next ?_
  by_cases hstx : s.stx.state = .idle <;> by_cases hxfer : xferActive s.xfer.state = true <;>
    simp only [cancelTransfer, cancelStream, takeEvent_cancelled_stream, takeEvent_cancelled_transfer, cancelled,
      cancelReports, hstx, hxfer, if_true, if_false, Bool.false_eq_true] <;> rfl

/-- Settles O31. -/
theorem cancelEndsBothSessions : Obligations.CancelEndsBothSessions := by
  intro s
  simp only [exec_cancel, cancelled, cancelReports, xferActive_iff]

end Sys2Proof.Machine

/-! ## Proofs: the listener, the capacity decision and the transfer (44_capacity.md, 45_transfer.md) -/

namespace Sys2Proof.Machine

/-! ### The listener -/

theorem colon_not_mem_of_undec {d : List Byte} {n : Nat} (h : undec d = some n) : colon ∉ d := by
  obtain ⟨_, hdigits, _, _⟩ := undec_some h
  intro hmem
  exact absurd (hdigits _ hmem) (by decide)

/-- A capacity reply is `"FREE:" d1 ":" d2` with two readable numbers (R78, R187). -/
theorem parseFree_eq_some_iff {body : List Byte} {f g : Nat} :
    parseFree body = some (f, g) ↔
      ∃ d1 d2, body = litFree ++ d1 ++ [colon] ++ d2 ∧ undec d1 = some f ∧ undec d2 = some g := by
  constructor
  · intro h
    unfold parseFree at h
    split at h
    · simp at h
    · rename_i r hr
      split at h
      · simp at h
      · rename_i d1 d2 hd
        split at h
        · rename_i h1 h2
          simp only [Option.some.injEq, Prod.mk.injEq] at h
          obtain ⟨rfl, rfl⟩ := h
          exact ⟨d1, d2, by simp [afterPrefix_some hr, (splitColon_some hd).1], h1, h2⟩
        · simp at h
  · rintro ⟨d1, d2, rfl, h1, h2⟩
    simp [parseFree, List.append_assoc, splitColon_append (colon_not_mem_of_undec h1), h1, h2]

/-- An acknowledgment is `"ACK:" d` with a readable number (R78, R206). -/
theorem parseAck_eq_some_iff {body : List Byte} {n : Nat} :
    parseAck body = some n ↔ ∃ d, body = litAck ++ d ∧ undec d = some n := by
  constructor
  · intro h
    unfold parseAck at h
    split at h
    · simp at h
    · rename_i d hd
      exact ⟨d, afterPrefix_some hd, h⟩
  · rintro ⟨d, rfl, h⟩
    simp [parseAck, h]

/-- A capacity reply that is heard fills its cell (R187). -/
theorem exec_msgInFree_of_reply {body : List Byte} {f g : Nat} (h : parseFree body = some (f, g)) (s : State) :
    exec (.msgInFree body) s = .next { s with lsn := { s.lsn with capReply := some (f, g) } } := by
  show Host.Outcome.next (listenFree body s) = _
  rw [listenFree_eq, h]

/-- An acknowledgment that is heard fills its cell (R206). -/
theorem exec_msgInAck_of_ack {body : List Byte} {n : Nat} (h : parseAck body = some n) (s : State) :
    exec (.msgInAck body) s = .next { s with lsn := { s.lsn with lastAck := some n } } := by
  show Host.Outcome.next (listenAck body s) = _
  rw [listenAck_eq, h]

/-- Settles O33: the shape of R187 decides between the cell and the counter. -/
theorem listenerStoresCapacityReplies : Obligations.ListenerStoresCapacityReplies := by
  refine fun s => ⟨fun d1 d2 f g h1 h2 => ?_, fun body hbad => ?_, fun f g hf hg => ?_⟩
  · exact exec_msgInFree_of_reply (parseFree_eq_some_iff.2 ⟨d1, d2, rfl, h1, h2⟩) s
  · have hnone : parseFree body = none := by
      refine Option.eq_none_iff_forall_ne_some.2 fun p hp => ?_
      obtain ⟨d1, d2, hbody, h1, h2⟩ := parseFree_eq_some_iff.1 hp
      rcases hbad d1 d2 hbody with h | h
      · simp [h] at h1
      · simp [h] at h2
    rw [exec_msgInFree_of_malformed hnone, takeEvent_malformedReply]
  · exact exec_msgInFree_of_reply (parseFree_freeBody hf hg) s

/-- Settles O34: the shape of R206 decides between the cell and the counter. -/
theorem listenerStoresAcknowledgments : Obligations.ListenerStoresAcknowledgments := by
  refine fun s => ⟨fun d n h => ?_, fun body hbad => ?_, fun n hn => ?_⟩
  · exact exec_msgInAck_of_ack (parseAck_eq_some_iff.2 ⟨d, rfl, h⟩) s
  · have hnone : parseAck body = none := by
      refine Option.eq_none_iff_forall_ne_some.2 fun n hn => ?_
      obtain ⟨d, hbody, h⟩ := parseAck_eq_some_iff.1 hn
      simp [hbad d hbody] at h
    rw [exec_msgInAck_of_malformed hnone, takeEvent_malformedReply]
  · exact exec_msgInAck_of_ack (parseAck_ackBody hn) s

/-! ### The capacity decision -/

theorem capDecideEnabled_iff (s : State) :
    capDecideEnabled s = true ↔ s.xfer.state = .negotiating ∧ ∃ f g, s.lsn.capReply = some (f, g) := by
  rw [capDecideEnabled, Bool.and_eq_true, decide_eq_true_iff, Option.isSome_iff_exists]
  simp

theorem capDecideEnabled_eq_false {s : State} (h : s.xfer.state ≠ .negotiating ∨ s.lsn.capReply = none) :
    capDecideEnabled s = false := by
  rcases h with h | h <;> simp [capDecideEnabled, h]

theorem capTimeoutEnabled_iff (s : State) :
    capTimeoutEnabled s = true ↔
      s.xfer.state = .negotiating ∧ s.lsn.capReply = none ∧ s.xfer.deadline ≤ s.now := by
  simp [capTimeoutEnabled, and_assoc]

/-- The state after a reply with enough space for a file of at least one chunk (R188). -/
def transferAccepted (s : State) : State :=
  { s with
    lsn := { s.lsn with capReply := none }
    xfer := { s.xfer with state := .sendingChunk }
    outputs := .msg .data (startBody s.xfer.fileSize) :: s.outputs }

/-- The state after a reply for an empty file (R188). -/
def emptyTransferDone (s : State) : State :=
  { s with
    lsn := { s.lsn with capReply := none }
    xfer := { s.xfer with state := .complete }
    outputs := .msg .data litEnd :: .msg .data (startBody s.xfer.fileSize) :: s.outputs }

/-- The state after a reply with too little space (R188). -/
def transferRefused (s : State) : State :=
  { s with
    lsn := { s.lsn with capReply := none }
    xfer := { s.xfer with state := .abortedInsufficientSpace }
    outputs := .event 4 0 :: s.outputs }

/-- The decision is on the exact sum, and equality proceeds (R188, R190). -/
theorem exec_capDecide_of_reply {s : State} {f g : Nat} (hneg : s.xfer.state = .negotiating)
    (hreply : s.lsn.capReply = some (f, g)) :
    exec .capDecide s =
      .next (if s.xfer.fileSize ≤ f + g then
        if s.xfer.total = 0 then emptyTransferDone s else transferAccepted s
      else transferRefused s) := by
  by_cases hfits : s.xfer.fileSize ≤ f + g
  · by_cases htotal : s.xfer.total = 0
    · show execCapDecide s = _
      simp only [execCapDecide, capDecideEnabled_of_reply hneg hreply, hreply, hfits, htotal, if_true,
        Bool.not_true, Bool.false_eq_true, if_false]
      rfl
    · rw [exec_capDecide_of_fits hneg hreply hfits htotal, if_pos hfits, if_neg htotal]
      rfl
  · rw [exec_capDecide_of_exceeds hneg hreply (Nat.not_le.1 hfits), if_neg hfits, takeEvent_capInsufficient,
      if_pos (show (clearReply s).xfer.state = .negotiating from hneg)]
    rfl

/-- `CAP_DECIDE` answers exactly with a reply in hand while negotiating (R188). -/
theorem exec_capDecide_eq_next {s t : State} :
    exec .capDecide s = .next t ↔
      s.xfer.state = .negotiating ∧ ∃ f g, s.lsn.capReply = some (f, g) ∧
        (if s.xfer.fileSize ≤ f + g then
          if s.xfer.total = 0 then emptyTransferDone s else transferAccepted s
        else transferRefused s) = t := by
  by_cases h : capDecideEnabled s = true
  · obtain ⟨hneg, f, g, hreply⟩ := (capDecideEnabled_iff s).1 h
    rw [exec_capDecide_of_reply hneg hreply, Host.Outcome.next.injEq]
    simp [hneg, hreply]
  · refine ⟨fun hexec => absurd ?_ h, fun ⟨hneg, f, g, hreply, _⟩ =>
      absurd (capDecideEnabled_of_reply hneg hreply) h⟩
    have hexec : execCapDecide s = .next t := hexec
    rw [execCapDecide, guard_fault_eq_next] at hexec
    simpa using hexec.1

/-- The state after the wait for a reply ran out (R189). -/
def replyTimedOut (s : State) : State :=
  { s with xfer := { s.xfer with state := .abortedNoReply }, outputs := .event 3 0 :: s.outputs }

theorem clearReply_of_none {s : State} (h : s.lsn.capReply = none) : clearReply s = s := by
  rw [clearReply, ← h]
  rfl

/-- `CAP_TIMEOUT` answers exactly when enabled (R189). -/
theorem exec_capTimeout_eq_next {s t : State} :
    exec .capTimeout s = .next t ↔ capTimeoutEnabled s = true ∧ replyTimedOut s = t := by
  show execCapTimeout s = _ ↔ _
  rw [execCapTimeout, guarded_or_fault_eq_next, Host.Outcome.next.injEq]
  refine and_congr_right fun h => ?_
  obtain ⟨hneg, hnone, _⟩ := (capTimeoutEnabled_iff s).1 h
  rw [clearReply_of_none hnone, takeEvent_capNoReply, if_pos hneg]
  rfl

/-- Settles O36: the three outcomes of a decision, the timeout, and the two guards. -/
theorem capacityIsDecidedOnce : Obligations.CapacityIsDecidedOnce := by
  refine fun s => ⟨fun f g hneg hreply => ?_, fun h => ?_, fun hneg hnone hlate => ?_, fun h => ?_⟩
  · rw [exec_capDecide_of_reply hneg hreply]
    refine ⟨fun hfits htotal => ?_, fun hfits htotal => ?_, fun hover => ?_⟩
    · rw [if_pos hfits, if_neg htotal, transferAccepted]
    · rw [if_pos hfits, if_pos htotal, emptyTransferDone]
      rfl
    · rw [if_neg (Nat.not_le.2 hover), transferRefused]
  · show execCapDecide s = _
    simp [execCapDecide, capDecideEnabled_eq_false h]
  · exact exec_capTimeout_eq_next.2 ⟨(capTimeoutEnabled_iff s).2 ⟨hneg, hnone, hlate⟩, rfl⟩
  · refine if_neg ?_
    rw [capTimeoutEnabled_iff]
    rintro ⟨hneg, hnone, hlate⟩
    rcases h with h | h | h
    · exact h hneg
    · exact h hnone
    · omega

/-! ### Starting a transfer -/

theorem xferStart_of_active {s : State} (h : xferActive s.xfer.state = true) (size : SizeWord) :
    exec (.xferStart size) s = .next s := if_pos h

theorem xferStart_of_latched {s : State} (h : xferActive s.xfer.state = false) {size : SizeWord} {r : XferCfg}
    (hr : latchXfer s.now size.toNat s.cfg = .ok r) :
    exec (.xferStart size) s = .next (startXfer size.toNat r s) := by
  show execXferStart size s = _
  simp [execXferStart, h, hr]

theorem xferStart_of_not_latched {s : State} (h : xferActive s.xfer.state = false) {size : SizeWord} {r : Refusal}
    (hr : latchXfer s.now size.toNat s.cfg = .error r) : exec (.xferStart size) s = .refused r := by
  show execXferStart size s = _
  simp [execXferStart, h, hr]

/-- The effect of a start: cells and record fresh, the deadline set, the request sent once (R202). -/
theorem startXfer_eq (size : Nat) (r : XferCfg) (s : State) :
    startXfer size r s =
      { s with
        lsn := { s.lsn with capReply := none, lastAck := none }
        xfer := { state := .negotiating, idx := r.idx0, total := chunkCount size r.chunkSize, fileSize := size
                  deadline := s.now + r.capTimeout, lastAcked := none, cfg := r }
        outputs := .msg .req Config.reqToken :: s.outputs } := rfl

theorem latchXfer_of_unwritten {c : CfgRegs}
    (h : c.chunkSize = none ∨ c.ackTimeout = none ∨ c.capTimeout = none ∨ c.idx0 = none) (now size : Nat) :
    latchXfer now size c = .error .xferConfigUnwritten := by
  unfold latchXfer
  split
  · simp_all
  · rfl

/-- With every register written the latch decides on their values (R202, R203, R274). -/
theorem latchXfer_of_written {c : CfgRegs} {chunk ackTimeout capTimeout z : Nat} (hchunk : c.chunkSize = some chunk)
    (hack : c.ackTimeout = some ackTimeout) (hcap : c.capTimeout = some capTimeout) (hz : c.idx0 = some z)
    (now size : Nat) :
    latchXfer now size c =
      if chunk = 0 ∨ 1 < z then .error .xferConfigIllegal
      else if ¬now + capTimeout < 2 ^ 64 then .error .timeOverflow
      else if (size + chunk - 1) / chunk = 2 ^ 32 - 1 ∧ z = 1 then .error .chunkIndexOverflow
      else .ok { chunkSize := chunk, ackTimeout := ackTimeout, capTimeout := capTimeout, idx0 := z } := by
  simp only [latchXfer, hchunk, hack, hcap, hz, Bool.not_eq_true', ← Bool.not_eq_true, fitsTime_iff]
  rfl

theorem xferActive_eq_false {x : XferState} (h1 : x ≠ .negotiating) (h2 : x ≠ .sendingChunk) (h3 : x ≠ .awaitingAck) :
    xferActive x = false := by
  rw [Bool.eq_false_iff, ne_eq, xferActive_iff]
  simp [h1, h2, h3]

/-- Settles O38: the guard, then the latch's checks in their order, then the effect. -/
theorem transferStartRequestsCapacity : Obligations.TransferStartRequestsCapacity := by
  refine fun size s => ⟨fun h => xferStart_of_active ((xferActive_iff _).2 h) size,
    fun h1 h2 h3 => ⟨fun hnone => ?_, ?_⟩⟩
  all_goals have hinactive := xferActive_eq_false h1 h2 h3
  · exact xferStart_of_not_latched hinactive (latchXfer_of_unwritten hnone _ _)
  · intro c ackTimeout capTimeout z hc hack hcap hz
    have hlatch := latchXfer_of_written hc hack hcap hz s.now size.toNat
    refine ⟨fun hbad => ?_, fun hc0 hz1 hover => ?_, fun hc0 hz1 hfits hlast => ?_, fun hc0 hz1 hfits hidx => ?_⟩
    · rw [if_pos hbad] at hlatch
      exact xferStart_of_not_latched hinactive hlatch
    · rw [if_neg (by omega), if_pos (by omega)] at hlatch
      exact xferStart_of_not_latched hinactive hlatch
    · rw [if_neg (by omega), if_neg (by omega), if_pos ⟨hlast, hz1⟩] at hlatch
      exact xferStart_of_not_latched hinactive hlatch
    · rw [if_neg (by omega), if_neg (by omega), if_neg hidx] at hlatch
      exact xferStart_of_latched hinactive hlatch

/-! ### The chunks -/

/-- The state after the awaited chunk is published (R205). -/
def chunkSent (s : State) : State :=
  { s with
    xfer := { s.xfer with deadline := s.now + s.xfer.cfg.ackTimeout, state := .awaitingAck }
    outputs := .msg .data (chunkBody s.xfer.idx s.xfer.total (currentData s)) :: s.outputs }

/-- `XFER_SEND_CHUNK` answers exactly when enabled, with a deadline that fits and a chunk in the file (R205, R274). -/
theorem exec_xferSendChunk_eq_next {s t : State} :
    exec .xferSendChunk s = .next t ↔
      s.xfer.state = .sendingChunk ∧ s.now + s.xfer.cfg.ackTimeout < 2 ^ 64 ∧ chunkInFile s = true ∧
        chunkSent s = t := by
  show execXferSendChunk s = _ ↔ _
  simp only [execXferSendChunk, guard_fault_eq_next, guard_refused_eq_next, sendChunkEnabled, Bool.not_eq_true',
    ← Bool.not_eq_true, not_not, fitsTime_iff, decide_eq_true_iff, Host.Outcome.next.injEq]
  rfl

theorem chunkInFile_iff (s : State) :
    chunkInFile s = true ↔
      s.xfer.cfg.idx0 ≤ s.xfer.idx ∧ (s.xfer.idx - s.xfer.cfg.idx0) * s.xfer.cfg.chunkSize ≤ s.xfer.fileSize := by
  rw [chunkInFile, Bool.and_eq_true, decide_eq_true_iff, decide_eq_true_iff]
  rfl

/-- Settles O39: the three checks of R205 in their order, and its effect. -/
theorem chunkIsPublished : Obligations.ChunkIsPublished := by
  refine fun s => ⟨fun h => ?_, fun h hover => ?_, fun h hfits hout => ?_, fun h hfits hidx hoff => ?_⟩
  · show execXferSendChunk s = _
    simp [execXferSendChunk, sendChunkEnabled, h]
  · show execXferSendChunk s = _
    have hnot : fitsTime (s.now + s.xfer.cfg.ackTimeout) = false :=
      Bool.eq_false_iff.2 (mt (fitsTime_iff _).1 (Nat.not_lt.2 hover))
    simp [execXferSendChunk, sendChunkEnabled, h, hnot]
  · show execXferSendChunk s = _
    have hnot : chunkInFile s = false := by
      rw [Bool.eq_false_iff, ne_eq, chunkInFile_iff]
      omega
    simp [execXferSendChunk, sendChunkEnabled, h, (fitsTime_iff _).2 hfits, hnot]
  · exact exec_xferSendChunk_eq_next.2 ⟨h, hfits, (chunkInFile_iff s).2 ⟨hidx, hoff⟩, rfl⟩

/-- The chunks of any number of full ones joined are the file up to there (R203). -/
theorem flatten_chunkData {s : State} (k : Nat) (h : ∀ j, j < k → j * s.xfer.cfg.chunkSize < s.xfer.fileSize) :
    ((List.range k).map (chunkData s)).flatten =
      Mem.readBytes s.file 0 (min (k * s.xfer.cfg.chunkSize) s.xfer.fileSize) := by
  induction k with
  | zero => simp [Mem.readBytes]
  | succ k ih =>
    have hk := h k (Nat.lt_succ_self k)
    have hsplit : min ((k + 1) * s.xfer.cfg.chunkSize) s.xfer.fileSize =
        k * s.xfer.cfg.chunkSize + min s.xfer.cfg.chunkSize (s.xfer.fileSize - k * s.xfer.cfg.chunkSize) := by
      rw [Nat.succ_mul]
      omega
    rw [List.range_succ, List.map_append, List.flatten_append, ih fun j hj => h j (Nat.lt_succ_of_lt hj),
      Nat.min_eq_left (Nat.le_of_lt hk), hsplit, Mem.readBytes_add, Nat.zero_add]
    simp [chunkData]

/-- Settles O40: every chunk starts inside the file, and the last one ends it. -/
theorem chunksAreTheFile : Obligations.ChunksAreTheFile := by
  intro s hchunk htotal
  obtain ⟨_, hcover, hinside⟩ := chunkCount_bounds (size := s.xfer.fileSize) hchunk
  rw [← htotal] at hcover hinside
  have hlen (j : Nat) : (chunkData s j).length =
      min s.xfer.cfg.chunkSize (s.xfer.fileSize - j * s.xfer.cfg.chunkSize) := Mem.length_readBytes _ _ _
  refine ⟨?_, fun j hj => ?_, fun j hj => ?_⟩
  · rw [flatten_chunkData _ hinside, Nat.min_eq_right hcover]
  · have hnext := hinside (j + 1) hj
    rw [Nat.succ_mul] at hnext
    rw [hlen]
    omega
  · have hlast := hinside j (by omega)
    rw [← hj, Nat.succ_mul] at hcover
    rw [hlen]
    omega

/-! ### Acknowledgments -/

theorem ackMatchEnabled_iff (s : State) :
    ackMatchEnabled s = true ↔ s.xfer.state = .awaitingAck ∧ s.lsn.lastAck = some s.xfer.idx := by
  simp [ackMatchEnabled]

theorem ackTimeoutEnabled_iff (s : State) :
    ackTimeoutEnabled s = true ↔
      s.xfer.state = .awaitingAck ∧ s.xfer.deadline ≤ s.now ∧ s.lsn.lastAck ≠ some s.xfer.idx := by
  simp [ackTimeoutEnabled, and_assoc]

/-- The state after the last chunk is acknowledged (R207). -/
def transferDone (s : State) : State :=
  { s with
    xfer := { s.xfer with lastAcked := some s.xfer.idx, state := .complete }
    outputs := .msg .data litEnd :: s.outputs }

/-- The state after another chunk is acknowledged (R207). -/
def chunkAcked (s : State) : State :=
  { s with xfer := { s.xfer with lastAcked := some s.xfer.idx, idx := s.xfer.idx + 1, state := .sendingChunk } }

/-- An enabled `XFER_ACK_MATCH` ends the session on the last chunk and advances by one on any other, unless the index
would not fit (R207, R203). -/
theorem exec_xferAckMatch_of_enabled {s : State} (h : ackMatchEnabled s = true) :
    exec .xferAckMatch s =
      if s.xfer.idx + 1 = s.xfer.cfg.idx0 + s.xfer.total then .next (transferDone s)
      else if 2 ^ 32 ≤ s.xfer.idx + 1 then .refused .chunkIndexOverflow
      else .next (chunkAcked s) := by
  show execXferAckMatch s = _
  simp only [execXferAckMatch, h, isLastChunk, decide_eq_true_iff, Bool.not_true, Bool.false_eq_true, if_false]
  rfl

/-- `XFER_ACK_MATCH` answers exactly when enabled, with an index that fits (R207). -/
theorem exec_xferAckMatch_eq_next {s t : State} :
    exec .xferAckMatch s = .next t ↔
      ackMatchEnabled s = true ∧
        ((s.xfer.idx + 1 = s.xfer.cfg.idx0 + s.xfer.total ∧ transferDone s = t) ∨
          (s.xfer.idx + 1 ≠ s.xfer.cfg.idx0 + s.xfer.total ∧ s.xfer.idx + 1 < 2 ^ 32 ∧ chunkAcked s = t)) := by
  by_cases h : ackMatchEnabled s = true
  · rw [exec_xferAckMatch_of_enabled h]
    by_cases hlast : s.xfer.idx + 1 = s.xfer.cfg.idx0 + s.xfer.total
    · simp [h, hlast]
    · rw [if_neg hlast, guard_refused_eq_next, Nat.not_le, Host.Outcome.next.injEq]
      simp [h, hlast]
  · show execXferAckMatch s = _ ↔ _
    simp [execXferAckMatch, h]

/-- The state after the wait for an acknowledgment ran out (R208). -/
def ackTimedOut (s : State) : State :=
  { s with
    xfer := { s.xfer with state := .abortedTimeout }
    outputs := .event 5 (BitVec.ofNat 32 s.xfer.idx) :: s.outputs }

/-- `XFER_ACK_TIMEOUT` answers exactly when enabled (R208). -/
theorem exec_xferAckTimeout_eq_next {s t : State} :
    exec .xferAckTimeout s = .next t ↔ ackTimeoutEnabled s = true ∧ ackTimedOut s = t := by
  show execXferAckTimeout s = _ ↔ _
  rw [execXferAckTimeout, guarded_or_fault_eq_next, Host.Outcome.next.injEq]
  refine and_congr_right fun h => ?_
  obtain ⟨hawait, _, _⟩ := (ackTimeoutEnabled_iff s).1 h
  rw [takeEvent_ackTimeout, if_pos hawait]
  rfl

/-- Settles O41: the match with its three outcomes, the timeout, and the two guards. -/
theorem acknowledgmentAdvancesOrTimesOut : Obligations.AcknowledgmentAdvancesOrTimesOut := by
  refine fun s => ⟨fun hawait hack => ?_, fun h => ?_, fun hawait hack hlate => ?_, fun h => ?_⟩
  · rw [exec_xferAckMatch_of_enabled ((ackMatchEnabled_iff s).2 ⟨hawait, hack⟩)]
    refine ⟨fun hlast => ?_, fun hmore hfits => ?_, fun hmore hover => ?_⟩
    · rw [if_pos hlast]
      rfl
    · rw [if_neg hmore, if_neg (Nat.not_le.2 hfits), chunkAcked]
    · rw [if_neg hmore, if_pos hover]
  · have hguard : ackMatchEnabled s = false := by
      rcases h with h | h <;> simp [ackMatchEnabled, h]
    show execXferAckMatch s = _
    simp [execXferAckMatch, hguard]
  · exact exec_xferAckTimeout_eq_next.2 ⟨(ackTimeoutEnabled_iff s).2 ⟨hawait, hlate, hack⟩, rfl⟩
  · refine if_neg ?_
    rw [ackTimeoutEnabled_iff]
    rintro ⟨hawait, hlate, hack⟩
    rcases h with h | h | h
    · exact h hawait
    · exact hack h
    · omega

end Sys2Proof.Machine

/-! ## Proofs: configuration, messages sent, events, reset and issued operations -/

namespace Sys2Proof.Machine

/-- A configuration register written reads as written, every other as before (43_transport.md R178). -/
theorem readCfg_writeCfg (name other : CfgName) (v : Nat) (c : CfgRegs) :
    readCfg other (writeCfg name v c) = if other = name then some v else readCfg other c := by
  cases name <;> cases other <;> rfl

/-- Settles O32. -/
theorem configurationWritesOneRegister : Obligations.ConfigurationWritesOneRegister := by
  refine ⟨fun name v s => ⟨writeCfg name v s.cfg, rfl, ?_, fun other hother => ?_⟩, fun arg s => ⟨?_, rfl⟩⟩
  · rw [readCfg_writeCfg, if_pos rfl]
  · rw [readCfg_writeCfg, if_neg hother]
  · exact decodeCmd_cmdBytes (k := 0) (by decide) arg

/-- Settles O42: each row emits its body. -/
theorem outboundMessagesAreEmitted : Obligations.OutboundMessagesAreEmitted := fun _ =>
  ⟨rfl, fun _ => rfl, fun _ _ _ => rfl, rfl⟩

/-- `CANCELLED` ends the session its information word names (60_exceptions.md R231, R238). -/
theorem takeEvent_cancelled (info : SizeWord) (s : State) :
    takeEvent .cancelled info s =
      { s with
        pkt := if info = 0 ∧ s.stx.state ≠ .idle then { s.pkt with out := none, pos := 0, payload := [] } else s.pkt
        stx := if info = 0 ∧ s.stx.state ≠ .idle then { s.stx with eof := false, state := .idle } else s.stx
        xfer := if info = 1 ∧ xferActive s.xfer.state = true then { s.xfer with state := .abortedCancelled } else s.xfer
        outputs := .event 7 info :: s.outputs } := by
  by_cases h0 : info = 0
  · subst h0
    have h1 : (0 : SizeWord) ≠ 1 := by decide
    rw [takeEvent_cancelled_stream]
    by_cases hidle : s.stx.state = .idle <;> simp only [hidle, h1, if_true, if_false, ne_eq, not_true_eq_false,
      not_false_eq_true, and_false, and_true, false_and]
  · by_cases h1 : info = 1
    · subst h1
      rw [takeEvent_cancelled_transfer]
      simp only [h0, false_and, if_false, true_and]
    · simp only [takeEvent, countEvent, endSession, eventCode, h0, h1, if_false, false_and]
      rfl

/-- Settles O43, by what taking each event does. -/
theorem eventsReportAndEndSessions : Obligations.EventsReportAndEndSessions := fun info s =>
  have hnext {e : Event} {t : State} (h : takeEvent e info s = t) :
      Host.Outcome.next (φ := Fault) (ρ := Refusal) (takeEvent e info s) = .next t := congrArg _ h
  ⟨hnext (takeEvent_txSendFail info s), hnext (takeEvent_captureOverrun info s), hnext (takeEvent_capNoReply info s),
    hnext (takeEvent_capInsufficient info s), hnext (takeEvent_ackTimeout info s),
    hnext (takeEvent_malformedReply info s), hnext (takeEvent_cancelled info s), hnext (takeEvent_decReject info s)⟩

/-- A register file with nothing written reads so (70_reset_and_hazards.md R262). -/
theorem readCfg_reset (name : CfgName) : readCfg name State.reset.cfg = none := by
  cases name <;> rfl

theorem resetValues_reset : ResetValues State.reset :=
  ⟨rfl, rfl, rfl, rfl, rfl, rfl, rfl, rfl, rfl, rfl, rfl, rfl, rfl, rfl, rfl, rfl, rfl, rfl, readCfg_reset⟩

/-- Settles O44: the registers after `RESET` are those of the reset state. -/
theorem resetGivesResetValues : Obligations.ResetGivesResetValues := fun s =>
  ⟨resetBlock s, rfl, resetValues_reset, rfl, rfl, rfl⟩

/-! ### The invariants of a block at rest -/

/-- With no stream running, a clear frame and no packet, the streaming half of R34 holds. -/
theorem streamInv_of_idle {s : State} (hidle : s.stx.state = .idle) (heof : s.stx.eof = false)
    (hpos : s.pkt.pos = 0) (hout : s.pkt.out = none) (hpayload : s.pkt.payload = []) : StreamInv s := by
  refine ⟨fun h => absurd hidle h, fun h => ?_, ?_, fun _ => hpos, fun h => ?_, fun k _ => ?_⟩
  · simp [hidle] at h
  · simp [hout, hidle]
  · simp [heof] at h
  · rw [hpayload, Mem.read_nil]
    simp [getNibble]

/-- With no transfer session active, the transfer half of R34 holds. -/
theorem transferInv_of_inactive {s : State} (h : xferActive s.xfer.state = false) : TransferInv s := by
  have hstates := mt (xferActive_iff s.xfer.state).2 (Bool.eq_false_iff.1 h)
  rw [not_or, not_or] at hstates
  obtain ⟨hneg, hsend, hawait⟩ := hstates
  exact ⟨fun hact => absurd hact (Bool.eq_false_iff.1 h), fun hn => absurd hn hneg,
    fun hs => absurd hs (not_or.2 ⟨hsend, hawait⟩)⟩

theorem rangeInv_reset : RangeInv State.reset := by
  refine ⟨by unfold CodecRange; decide, reset_mem_wf, by unfold TimesFit; decide, by decide, by decide, by decide,
    ?_, ?_, ?_⟩ <;> simp [State.reset]

/-- Settles O45. -/
theorem resetStateMeetsTheInvariants : Obligations.ResetStateMeetsTheInvariants :=
  ⟨resetValues_reset, rangeInv_reset, fun h => absurd rfl h,
    ⟨rfl, rangeInv_reset.1, reset_mem_wf, streamInv_of_idle rfl rfl rfl rfl rfl, transferInv_of_inactive rfl⟩, trivial⟩

/-! ### Issued operations -/

/-- Settles O46: an issued transaction is decoded and consumed before anything else is selected. -/
theorem stepRunsTheIssuedOperation : Obligations.StepRunsTheIssuedOperation := by
  refine ⟨fun s t rest h => ⟨fun i hd => ?_, fun hd => ?_, fun r hd hr => ?_⟩, fun s nbits w i hw => ?_⟩
  · rw [step, select_script h hd]
    rfl
  · simp only [step, select, h, hd]
    rfl
  · have hreject : select s = .reject r := by
      unfold select
      split <;> [split; skip] <;> simp_all
    rw [step, hreject]
  · have hd : decode (tableTransaction nbits w) = .ok i := by
      unfold decodeTableWord at hw
      split at hw <;> simp_all
    rw [step, select_script (s := s.withFetchWord nbits w) rfl hd]
    rfl

end Sys2Proof.Machine

/-! ## Proofs: everything an operation can do, one case per effect -/

namespace Sys2Proof.Machine

/-! ### The effects of the streaming side -/

/-- What the steps of the streaming side do, each under its condition (43_transport.md R167 to R173). -/
inductive StreamEffect : Instr → State → State → Prop
  | startIgnored {mode : Mode} {loop : Bool} {s : State} (h : s.stx.state ≠ .idle) :
      StreamEffect (.streamStart mode loop) s s
  | started {mode : Mode} {loop : Bool} {s : State} {r : StxCfg} (h : s.stx.state = .idle)
      (hr : latchStream s.cfg = .ok r) :
      StreamEffect (.streamStart mode loop) s
        { s with
          enc := { predictor := 0, stepIndex := 0 }
          pkt := { s.pkt with seq := 0, pos := 0, payload := [], out := none }
          pacer := { startTime := s.now, framesSent := 0, targetTime := s.now }
          playback := { pass := [], replay := none }
          stx := { s.stx with state := .filling, mode := mode, loop := loop, eof := false, cfg := r } }
  | frameGrown {x : Sample} {p : Playback} {s : State} (hready : sampleReady s = true)
      (hroom : s.pkt.pos < s.stx.cfg.frameSamples) (hs : s.enc.stepIndex.toNat ≤ 88)
      (hp : Supplies s.stx.mode x s.playback p) (hshort : s.pkt.pos + 1 ≠ s.stx.cfg.frameSamples) :
      StreamEffect (.pcmIn x) s { s with enc := (framePush x s).enc, pkt := (framePush x s).pkt, playback := p }
  | frameFilled {x : Sample} {p : Playback} {s : State} (hready : sampleReady s = true)
      (hs : s.enc.stepIndex.toNat ≤ 88) (hp : Supplies s.stx.mode x s.playback p)
      (hfull : s.pkt.pos + 1 = s.stx.cfg.frameSamples) :
      StreamEffect (.pcmIn x) s
        { s with
          enc := (framePush x s).enc
          pkt := (frameClose (framePush x s)).pkt
          playback := p
          stx := { s.stx with state := .ready } }
  | passEnded {s : State} (hready : sampleReady s = true) (hend : MayEnd s.stx.mode s.playback)
      (hpos : s.pkt.pos = 0) :
      StreamEffect .pcmEof s { s with stx := { s.stx with state := if s.stx.loop then .loopWait else .idle } }
  | lastFrameClosed {s : State} (hready : sampleReady s = true) (hend : MayEnd s.stx.mode s.playback)
      (hpos : 0 < s.pkt.pos) (hroom : s.pkt.pos < s.stx.cfg.frameSamples) (hs : s.enc.stepIndex.toNat ≤ 88) :
      StreamEffect .pcmEof s
        { s with
          enc := (framePad s).enc
          pkt := (frameClose (framePad s)).pkt
          stx := { s.stx with eof := true, state := .ready } }
  | restarted {s : State} (h : loopRestartEnabled s = true) :
      StreamEffect .loopRestart s
        { s with
          enc := { predictor := 0, stepIndex := 0 }
          pacer := { startTime := s.now, framesSent := 0, targetTime := s.now }
          playback := rewound s.stx.mode s.playback
          stx := { s.stx with state := .filling }
          outputs := .pcmRewind :: s.outputs }
  | sent {r : SendResult} {b : List Byte} {s : State} (h : sendFrameEnabled s = true)
      (hout : s.pkt.out = some b) (hfits : markTarget s < 2 ^ 64) :
      StreamEffect (.sendFrame r) s
        { s with
          pkt := { s.pkt with out := none }
          pacer := { s.pacer with framesSent := s.pacer.framesSent + 1, targetTime := markTarget s }
          stx := { s.stx with
            eof := false
            state := if s.stx.eof then (if s.stx.loop then .loopWait else .idle) else .filling
            txFailCount := s.stx.txFailCount + (if r = .fail then 1 else 0) }
          outputs := (if r = .fail then [.event 1 (s.pkt.seq - 1)] else [])
            ++ .dgram s.stx.cfg.destAddr s.stx.cfg.destPort b :: s.outputs }
  | overrunIgnored {s : State} (h : s.stx.state = .idle) : StreamEffect .pcmOverrun s s
  | overrun {s : State} (h : s.stx.state ≠ .idle) :
      StreamEffect .pcmOverrun s
        { s with stx := { s.stx with overrunCount := s.stx.overrunCount + 1 }, outputs := .event 2 0 :: s.outputs }

/-- Each effect of the streaming side is what its operation answers. -/
theorem StreamEffect.exec_eq {i : Instr} {s t : State} (h : StreamEffect i s t) : exec i s = .next t := by
  cases h with
  | startIgnored h => exact streamStart_of_running h _ _
  | started h hr => rw [streamStart_of_latched h hr, startStream_eq]
  | frameGrown hready hroom hs hp hshort =>
    rw [exec_pcmIn_of_supplied hready hroom hs hp, sampleTaken, if_neg hshort]
  | frameFilled hready hs hp hfull =>
    rw [exec_pcmIn_of_supplied hready (by omega) hs hp, sampleTaken, if_pos hfull]
  | passEnded hready hend hpos => exact exec_pcmEof_eq_next.2 ⟨hready, hend, .inl ⟨hpos, rfl⟩⟩
  | lastFrameClosed hready hend hpos hroom hs =>
    exact exec_pcmEof_eq_next.2 ⟨hready, hend, .inr ⟨hpos, hroom, hs, rfl⟩⟩
  | restarted h => exact exec_loopRestart_eq_next.2 ⟨h, rfl⟩
  | sent h hout hfits => exact exec_sendFrame_eq_next.2 ⟨h, _, hout, hfits, rfl⟩
  | overrunIgnored h => exact exec_pcmOverrun_of_idle h
  | overrun h => exact exec_pcmOverrun_of_streaming h

/-- An operation of the streaming side answers only by its effects. -/
theorem streamEffect_of_exec {i : Instr} {s t : State} (hi : i.isStreaming = true) (h : exec i s = .next t) :
    StreamEffect i s t := by
  cases i with
  | streamStart mode loop =>
    by_cases hidle : s.stx.state = .idle
    · cases hr : latchStream s.cfg with
      | ok r =>
        rw [streamStart_of_latched hidle hr] at h
        obtain rfl := Host.Outcome.next.inj h
        exact .started hidle hr
      | error r =>
        rw [streamStart_of_not_latched hidle hr] at h
        simp at h
    · rw [streamStart_of_running hidle] at h
      obtain rfl := Host.Outcome.next.inj h
      exact .startIgnored hidle
  | pcmIn x =>
    obtain ⟨hready, hroom, hs, p, hp, rfl⟩ := exec_pcmIn_eq_next.1 h
    by_cases hfull : s.pkt.pos + 1 = s.stx.cfg.frameSamples
    · rw [sampleTaken, if_pos hfull]
      exact .frameFilled hready hs hp hfull
    · rw [sampleTaken, if_neg hfull]
      exact .frameGrown hready hroom hs hp hfull
  | pcmEof =>
    obtain ⟨hready, hend, ⟨hpos, rfl⟩ | ⟨hpos, hroom, hs, rfl⟩⟩ := exec_pcmEof_eq_next.1 h
    · exact .passEnded hready hend hpos
    · exact .lastFrameClosed hready hend hpos hroom hs
  | loopRestart =>
    obtain ⟨henabled, rfl⟩ := exec_loopRestart_eq_next.1 h
    exact .restarted henabled
  | sendFrame r =>
    obtain ⟨henabled, b, hout, hfits, rfl⟩ := exec_sendFrame_eq_next.1 h
    exact .sent henabled hout hfits
  | pcmOverrun =>
    by_cases hidle : s.stx.state = .idle
    · rw [exec_pcmOverrun_of_idle hidle] at h
      obtain rfl := Host.Outcome.next.inj h
      exact .overrunIgnored hidle
    · rw [exec_pcmOverrun_of_streaming hidle, takeEvent_captureOverrun] at h
      obtain rfl := Host.Outcome.next.inj h
      exact .overrun hidle
  | _ => exact absurd hi Bool.false_ne_true

/-! ### The effects of the transfer side -/

/-- What the steps of the transfer side do, each under its condition (44_capacity.md R187 to R189, 45_transfer.md R202
to R208). -/
inductive TransferEffect : Instr → State → State → Prop
  | startIgnored {size : SizeWord} {s : State} (h : xferActive s.xfer.state = true) :
      TransferEffect (.xferStart size) s s
  | requested {size : SizeWord} {s : State} {r : XferCfg} (h : xferActive s.xfer.state = false)
      (hr : latchXfer s.now size.toNat s.cfg = .ok r) :
      TransferEffect (.xferStart size) s
        { s with
          lsn := { s.lsn with capReply := none, lastAck := none }
          xfer := { state := .negotiating, idx := r.idx0, total := chunkCount size.toNat r.chunkSize
                    fileSize := size.toNat, deadline := s.now + r.capTimeout, lastAcked := none, cfg := r }
          outputs := .msg .req Config.reqToken :: s.outputs }
  | replyHeard {body : List Byte} {f g : Nat} {s : State} (h : parseFree body = some (f, g)) :
      TransferEffect (.msgInFree body) s { s with lsn := { s.lsn with capReply := some (f, g) } }
  | replyMalformed {body : List Byte} {s : State} (h : parseFree body = none) :
      TransferEffect (.msgInFree body) s
        { s with lsn := { s.lsn with malformedCount := s.lsn.malformedCount + 1 }, outputs := .event 6 0 :: s.outputs }
  | ackHeard {body : List Byte} {n : Nat} {s : State} (h : parseAck body = some n) :
      TransferEffect (.msgInAck body) s { s with lsn := { s.lsn with lastAck := some n } }
  | ackMalformed {body : List Byte} {s : State} (h : parseAck body = none) :
      TransferEffect (.msgInAck body) s
        { s with lsn := { s.lsn with malformedCount := s.lsn.malformedCount + 1 }, outputs := .event 6 1 :: s.outputs }
  | accepted {f g : Nat} {s : State} (hneg : s.xfer.state = .negotiating) (hreply : s.lsn.capReply = some (f, g))
      (hfits : s.xfer.fileSize ≤ f + g) (htotal : s.xfer.total ≠ 0) :
      TransferEffect .capDecide s
        { s with
          lsn := { s.lsn with capReply := none }
          xfer := { s.xfer with state := .sendingChunk }
          outputs := .msg .data (startBody s.xfer.fileSize) :: s.outputs }
  | acceptedEmpty {f g : Nat} {s : State} (hneg : s.xfer.state = .negotiating)
      (hreply : s.lsn.capReply = some (f, g)) (hfits : s.xfer.fileSize ≤ f + g) (htotal : s.xfer.total = 0) :
      TransferEffect .capDecide s
        { s with
          lsn := { s.lsn with capReply := none }
          xfer := { s.xfer with state := .complete }
          outputs := .msg .data litEnd :: .msg .data (startBody s.xfer.fileSize) :: s.outputs }
  | insufficient {f g : Nat} {s : State} (hneg : s.xfer.state = .negotiating)
      (hreply : s.lsn.capReply = some (f, g)) (hover : f + g < s.xfer.fileSize) :
      TransferEffect .capDecide s
        { s with
          lsn := { s.lsn with capReply := none }
          xfer := { s.xfer with state := .abortedInsufficientSpace }
          outputs := .event 4 0 :: s.outputs }
  | replyTimedOut {s : State} (h : capTimeoutEnabled s = true) :
      TransferEffect .capTimeout s
        { s with xfer := { s.xfer with state := .abortedNoReply }, outputs := .event 3 0 :: s.outputs }
  | chunkSent {s : State} (hsend : s.xfer.state = .sendingChunk) (hfits : s.now + s.xfer.cfg.ackTimeout < 2 ^ 64)
      (hfile : chunkInFile s = true) :
      TransferEffect .xferSendChunk s
        { s with
          xfer := { s.xfer with deadline := s.now + s.xfer.cfg.ackTimeout, state := .awaitingAck }
          outputs := .msg .data (chunkBody s.xfer.idx s.xfer.total (currentData s)) :: s.outputs }
  | transferDone {s : State} (h : ackMatchEnabled s = true)
      (hlast : s.xfer.idx + 1 = s.xfer.cfg.idx0 + s.xfer.total) :
      TransferEffect .xferAckMatch s
        { s with
          xfer := { s.xfer with lastAcked := some s.xfer.idx, state := .complete }
          outputs := .msg .data litEnd :: s.outputs }
  | chunkAcked {s : State} (h : ackMatchEnabled s = true)
      (hmore : s.xfer.idx + 1 ≠ s.xfer.cfg.idx0 + s.xfer.total) (hfits : s.xfer.idx + 1 < 2 ^ 32) :
      TransferEffect .xferAckMatch s
        { s with
          xfer := { s.xfer with lastAcked := some s.xfer.idx, idx := s.xfer.idx + 1, state := .sendingChunk } }
  | ackTimedOut {s : State} (h : ackTimeoutEnabled s = true) :
      TransferEffect .xferAckTimeout s
        { s with
          xfer := { s.xfer with state := .abortedTimeout }
          outputs := .event 5 (BitVec.ofNat 32 s.xfer.idx) :: s.outputs }

/-- Each effect of the transfer side is what its operation answers. -/
theorem TransferEffect.exec_eq {i : Instr} {s t : State} (h : TransferEffect i s t) : exec i s = .next t := by
  cases h with
  | startIgnored h => exact xferStart_of_active h _
  | requested h hr => rw [xferStart_of_latched h hr, startXfer_eq]
  | replyHeard h => exact exec_msgInFree_of_reply h s
  | replyMalformed h => exact exec_msgInFree_of_malformed h s
  | ackHeard h => exact exec_msgInAck_of_ack h s
  | ackMalformed h => exact exec_msgInAck_of_malformed h s
  | accepted hneg hreply hfits htotal =>
    rw [exec_capDecide_of_reply hneg hreply, if_pos hfits, if_neg htotal, transferAccepted]
  | acceptedEmpty hneg hreply hfits htotal =>
    rw [exec_capDecide_of_reply hneg hreply, if_pos hfits, if_pos htotal, emptyTransferDone]
  | insufficient hneg hreply hover =>
    rw [exec_capDecide_of_reply hneg hreply, if_neg (Nat.not_le.2 hover), transferRefused]
  | replyTimedOut h => exact exec_capTimeout_eq_next.2 ⟨h, rfl⟩
  | chunkSent hsend hfits hfile => exact exec_xferSendChunk_eq_next.2 ⟨hsend, hfits, hfile, rfl⟩
  | transferDone h hlast => exact exec_xferAckMatch_eq_next.2 ⟨h, .inl ⟨hlast, rfl⟩⟩
  | chunkAcked h hmore hfits => exact exec_xferAckMatch_eq_next.2 ⟨h, .inr ⟨hmore, hfits, rfl⟩⟩
  | ackTimedOut h => exact exec_xferAckTimeout_eq_next.2 ⟨h, rfl⟩

/-- The listener hears a body on `T_RESP` by one of two effects (R187). -/
theorem listenFree_effect (body : List Byte) (s : State) : TransferEffect (.msgInFree body) s (listenFree body s) := by
  rw [listenFree_eq]
  cases h : parseFree body with
  | none => exact .replyMalformed h
  | some p => exact .replyHeard h

/-- The listener hears a body on `T_ACK` by one of two effects (R206). -/
theorem listenAck_effect (body : List Byte) (s : State) : TransferEffect (.msgInAck body) s (listenAck body s) := by
  rw [listenAck_eq]
  cases h : parseAck body with
  | none => exact .ackMalformed h
  | some n => exact .ackHeard h

/-- An operation of the transfer side answers only by its effects. -/
theorem transferEffect_of_exec {i : Instr} {s t : State} (hi : i.isTransfer = true) (h : exec i s = .next t) :
    TransferEffect i s t := by
  cases i with
  | xferStart size =>
    cases hactive : xferActive s.xfer.state with
    | false =>
      cases hr : latchXfer s.now size.toNat s.cfg with
      | ok r =>
        rw [xferStart_of_latched hactive hr] at h
        obtain rfl := Host.Outcome.next.inj h
        exact .requested hactive hr
      | error r =>
        rw [xferStart_of_not_latched hactive hr] at h
        simp at h
    | true =>
      rw [xferStart_of_active hactive] at h
      obtain rfl := Host.Outcome.next.inj h
      exact .startIgnored hactive
  | msgInFree body =>
    obtain rfl := Host.Outcome.next.inj h
    exact listenFree_effect body s
  | msgInAck body =>
    obtain rfl := Host.Outcome.next.inj h
    exact listenAck_effect body s
  | capDecide =>
    obtain ⟨hneg, f, g, hreply, rfl⟩ := exec_capDecide_eq_next.1 h
    by_cases hfits : s.xfer.fileSize ≤ f + g
    · by_cases htotal : s.xfer.total = 0
      · rw [if_pos hfits, if_pos htotal]
        exact .acceptedEmpty hneg hreply hfits htotal
      · rw [if_pos hfits, if_neg htotal]
        exact .accepted hneg hreply hfits htotal
    · rw [if_neg hfits]
      exact .insufficient hneg hreply (Nat.not_le.1 hfits)
  | capTimeout =>
    obtain ⟨henabled, rfl⟩ := exec_capTimeout_eq_next.1 h
    exact .replyTimedOut henabled
  | xferSendChunk =>
    obtain ⟨hsend, hfits, hfile, rfl⟩ := exec_xferSendChunk_eq_next.1 h
    exact .chunkSent hsend hfits hfile
  | xferAckMatch =>
    obtain ⟨henabled, ⟨hlast, rfl⟩ | ⟨hmore, hfits, rfl⟩⟩ := exec_xferAckMatch_eq_next.1 h
    · exact .transferDone henabled hlast
    · exact .chunkAcked henabled hmore hfits
  | xferAckTimeout =>
    obtain ⟨henabled, rfl⟩ := exec_xferAckTimeout_eq_next.1 h
    exact .ackTimedOut henabled
  | _ => exact absurd hi Bool.false_ne_true

/-! ### The effects of every operation -/

/-- The datagram that `PKT_DECODE` or a packet row is given (log 14). -/
def datagramOf : Instr → Option (List Byte)
  | .packet seq p i payload => some (headerBytes seq p i ++ payload)
  | .pktDecode b => some b
  | _ => none

/-- The message that an outbound message row emits (log 16). -/
def emittedMessage : Instr → Option Output
  | .req => some (.msg .req Config.reqToken)
  | .start n => some (.msg .data (startBody n))
  | .chunk i n data => some (.msg .data (chunkBody i n data))
  | .endMsg => some (.msg .data litEnd)
  | _ => none

/-- What an operation does when it answers. -/
inductive Effect : Instr → State → State → Prop
  | stream {i : Instr} {s t : State} (h : StreamEffect i s t) : Effect i s t
  | transfer {i : Instr} {s t : State} (h : TransferEffect i s t) : Effect i s t
  | code {i : Instr} {c : Code} {s : State} (hi : decoderCode i = some c) (hs : s.dec.stepIndex.toNat ≤ 88) :
      Effect i s { s with dec := codecAfter s.dec c, ret := .sample (codecAfter s.dec c).predictor }
  | payloadByte {h l : Code} {s : State} (hs : s.dec.stepIndex.toNat ≤ 88) :
      Effect (.payloadByte h l) s
        { s with dec := codecRun s.dec [h, l], ret := .samples (decodedSamples s.dec [h, l]) }
  | datagramRejected {i : Instr} {b : List Byte} {s : State} (hi : datagramOf i = some b) :
      Effect i s
        { s with decRejects := s.decRejects + 1, outputs := .event 8 (BitVec.ofNat 32 b.length) :: s.outputs }
  | datagramDecoded {i : Instr} {b : List Byte} {n : Nat} {s : State} (hi : datagramOf i = some b)
      (hidx : (packetStepIndex b).toNat ≤ 88) :
      Effect i s
        { s with
          dec := codecRun { predictor := packetPredictor b, stepIndex := packetStepIndex b } (packetCodes b n)
          outputs := .pcmOut (packetSeq b) (decodedSamples
            { predictor := packetPredictor b, stepIndex := packetStepIndex b } (packetCodes b n)) :: s.outputs }
  | emitted {i : Instr} {o : Output} {s : State} (hi : emittedMessage i = some o) :
      Effect i s { s with outputs := o :: s.outputs }
  | freeHeard {f g : Nat} {s t : State} (h : TransferEffect (.msgInFree (freeBody f g)) s t) :
      Effect (.free f g) s t
  | ackHeard {n : Nat} {s t : State} (h : TransferEffect (.msgInAck (ackBody n)) s t) : Effect (.ack n) s t
  | reserved {s : State} : Effect .cmdReserved s s
  | cancelled {s : State} :
      Effect .cancel s
        { s with
          pkt := if s.stx.state = .idle then s.pkt else { s.pkt with out := none, pos := 0, payload := [] }
          stx := if s.stx.state = .idle then s.stx else { s.stx with eof := false, state := .idle }
          xfer := if xferActive s.xfer.state then { s.xfer with state := .abortedCancelled } else s.xfer
          outputs := cancelReports s ++ s.outputs }
  | eventTxSendFail {info : SizeWord} {s : State} :
      Effect (.eventTxSendFail info) s
        { s with stx := { s.stx with txFailCount := s.stx.txFailCount + 1 }, outputs := .event 1 info :: s.outputs }
  | eventCaptureOverrun {info : SizeWord} {s : State} :
      Effect (.eventCaptureOverrun info) s
        { s with stx := { s.stx with overrunCount := s.stx.overrunCount + 1 }, outputs := .event 2 info :: s.outputs }
  | eventCapNoReply {info : SizeWord} {s : State} :
      Effect (.eventCapNoReply info) s
        { s with xfer := if s.xfer.state = .negotiating then { s.xfer with state := .abortedNoReply } else s.xfer
                 outputs := .event 3 info :: s.outputs }
  | eventCapInsufficient {info : SizeWord} {s : State} :
      Effect (.eventCapInsufficient info) s
        { s with
          xfer := if s.xfer.state = .negotiating then
            { s.xfer with state := .abortedInsufficientSpace } else s.xfer
          outputs := .event 4 info :: s.outputs }
  | eventAckTimeout {info : SizeWord} {s : State} :
      Effect (.eventAckTimeout info) s
        { s with xfer := if s.xfer.state = .awaitingAck then { s.xfer with state := .abortedTimeout } else s.xfer
                 outputs := .event 5 info :: s.outputs }
  | eventMalformedReply {info : SizeWord} {s : State} :
      Effect (.eventMalformedReply info) s
        { s with lsn := { s.lsn with malformedCount := s.lsn.malformedCount + 1 }
                 outputs := .event 6 info :: s.outputs }
  | eventCancelled {info : SizeWord} {s : State} :
      Effect (.eventCancelled info) s
        { s with
          pkt := if info = 0 ∧ s.stx.state ≠ .idle then
            { s.pkt with out := none, pos := 0, payload := [] } else s.pkt
          stx := if info = 0 ∧ s.stx.state ≠ .idle then { s.stx with eof := false, state := .idle } else s.stx
          xfer := if info = 1 ∧ xferActive s.xfer.state = true then
            { s.xfer with state := .abortedCancelled } else s.xfer
          outputs := .event 7 info :: s.outputs }
  | eventDecReject {info : SizeWord} {s : State} :
      Effect (.eventDecReject info) s
        { s with decRejects := s.decRejects + 1, outputs := .event 8 info :: s.outputs }
  | recon {p : Sample} {i : StepIndex} {c : Code} {s : State} {r : Ret} : Effect (.recon p i c) s { s with ret := r }
  | encSample {x : Sample} {s : State} :
      Effect (.encSample x) s
        { s with enc := codecAfter s.enc (codecCode s.enc x), ret := .code (codecCode s.enc x) }
  | encLoad {p : Sample} {i : StepIndex} {s : State} (hi : i.toNat ≤ 88) :
      Effect (.encLoad p i) s { s with enc := { predictor := p, stepIndex := i } }
  | decLoad {p : Sample} {i : StepIndex} {s : State} (hi : i.toNat ≤ 88) :
      Effect (.decLoad p i) s { s with dec := { predictor := p, stepIndex := i } }
  | framePush {x : Sample} {s : State} (hs : s.enc.stepIndex.toNat ≤ 88) :
      Effect (.framePush x) s { s with enc := (framePush x s).enc, pkt := (framePush x s).pkt }
  | framePad {s : State} (hpos : 0 < s.pkt.pos) (hs : s.enc.stepIndex.toNat ≤ 88) :
      Effect .framePad s { s with enc := (framePad s).enc, pkt := (framePad s).pkt }
  | frameClose {s : State} : Effect .frameClose s { s with pkt := (frameClose s).pkt }
  | encFrame {xs : List Sample} {s : State} (hs : s.enc.stepIndex.toNat ≤ 88) (hpos : s.pkt.pos = 0) :
      Effect (.encFrame xs) s
        { s with
          enc := (framePushAll (frameSamplesGiven xs s) s).enc
          pkt := (Machine.frameClose (framePushAll (frameSamplesGiven xs s) s)).pkt }
  | paceAnchor {s : State} :
      Effect .paceAnchor s { s with pacer := { startTime := s.now, framesSent := 0, targetTime := s.now } }
  | paceMark {s : State} (hfits : markTarget s < 2 ^ 64) :
      Effect .paceMark s
        { s with pacer := { s.pacer with framesSent := s.pacer.framesSent + 1, targetTime := markTarget s } }
  | paceGate {s : State} {r : Ret} : Effect .paceGate s { s with ret := r }
  | tick {w : TimeWord} {s : State} (h : s.now ≤ w.toNat) : Effect (.tick w) s { s with now := w.toNat }
  | cfgWrite {name : CfgName} {v : Nat} {s : State} :
      Effect (.cfgWrite name v) s { s with cfg := writeCfg name v s.cfg }
  | reset {s : State} : Effect .reset s (resetBlock s)

/-- A datagram is rejected or decoded (41_packetizer.md R140). -/
theorem receiveDatagram_effect {i : Instr} {b : List Byte} {s t : State} (hi : datagramOf i = some b)
    (h : exec (.pktDecode b) s = .next t) : Effect i s t := by
  by_cases hnone : s.cfg.sampleRate = none ∨ s.cfg.frameMs = none
  · rw [exec_pktDecode_of_unwritten hnone] at h
    simp at h
  · obtain ⟨hrate, hms⟩ := not_or.1 hnone
    obtain ⟨rate, hrate⟩ := Option.ne_none_iff_exists'.1 hrate
    obtain ⟨ms, hms⟩ := Option.ne_none_iff_exists'.1 hms
    rw [exec_pktDecode_of_written hrate hms, guard_refused_eq_next, Host.Outcome.next.injEq] at h
    obtain ⟨_, rfl⟩ := h
    by_cases hbad : b.length ≠ 7 + paylen (rate * ms / 1000) ∨ 88 < (packetStepIndex b).toNat
    · rw [decodeDatagram_of_bad hbad]
      exact .datagramRejected hi
    · obtain ⟨hlen, hidx⟩ := not_or.1 hbad
      rw [decodeDatagram_of_good (not_not.1 hlen) (Nat.not_lt.1 hidx)]
      exact .datagramDecoded hi (Nat.not_lt.1 hidx)

/-- A code answers only from a legal index (R95). -/
theorem decodeCode_effect {i : Instr} {c : Code} {s t : State} (hi : decoderCode i = some c)
    (h : exec i s = .next t) : Effect i s t := by
  rw [exec_of_decoderCode hi] at h
  by_cases hs : s.dec.stepIndex.toNat ≤ 88
  · rw [decodeCode_of_legal hs] at h
    obtain rfl := Host.Outcome.next.inj h
    exact .code hi hs
  · rw [decodeCode_of_illegal (Nat.not_le.1 hs)] at h
    simp at h

/-- What a guard on a legal index lets through. -/
theorem legal_of_guarded {i : StepIndex} {a : Answer} {r : Refusal} {t : State}
    (h : (if StepIndex.legal i then a else .refused r) = .next t) : i.toNat ≤ 88 ∧ a = .next t := by
  rw [guarded_or_refused_eq_next, stepIndex_legal_iff] at h
  exact h

theorem framePush_frame (x : Sample) (s : State) :
    framePush x s = { s with enc := (framePush x s).enc, pkt := (framePush x s).pkt } := framePushAll_frame [x] s

/-- A frame pushed and closed changes `ENC` and the packetizer alone. -/
theorem frameClose_framePushAll_frame (xs : List Sample) (s : State) :
    frameClose (framePushAll xs s) =
      { s with enc := (framePushAll xs s).enc, pkt := (frameClose (framePushAll xs s)).pkt } :=
  congrArg (fun v : State => { v with pkt := (frameClose (framePushAll xs s)).pkt }) (framePushAll_frame xs s)

theorem effect_of_next {i : Instr} {s t u : State} (h : Host.Outcome.next (φ := Fault) (ρ := Refusal) u = .next t)
    (hu : Effect i s u) : Effect i s t :=
  Host.Outcome.next.inj h ▸ hu

/-- Every operation answers only by its effects. -/
theorem effect_of_exec {i : Instr} {s t : State} (h : exec i s = .next t) : Effect i s t := by
  cases i with
  | streamStart | pcmIn | pcmEof | loopRestart | sendFrame | pcmOverrun =>
    exact .stream (streamEffect_of_exec rfl h)
  | xferStart | msgInFree | msgInAck | capDecide | capTimeout | xferSendChunk | xferAckMatch | xferAckTimeout =>
    exact .transfer (transferEffect_of_exec rfl h)
  | payloadByte c d =>
    obtain ⟨hs, ht⟩ := legal_of_guarded h
    exact effect_of_next ht (.payloadByte hs)
  | packet | pktDecode => exact receiveDatagram_effect rfl h
  | req | start | chunk | endMsg => exact effect_of_next h (.emitted rfl)
  | free f g => exact effect_of_next h (.freeHeard (listenFree_effect _ s))
  | ack n => exact effect_of_next h (.ackHeard (listenAck_effect _ s))
  | cancel => exact effect_of_next ((exec_cancel s).symm.trans h) .cancelled
  | cmdReserved => exact effect_of_next h .reserved
  | eventTxSendFail => exact effect_of_next h .eventTxSendFail
  | eventCaptureOverrun => exact effect_of_next h .eventCaptureOverrun
  | eventCapNoReply info =>
    exact effect_of_next ((congrArg _ (takeEvent_capNoReply info s)).symm.trans h) .eventCapNoReply
  | eventCapInsufficient info =>
    exact effect_of_next ((congrArg _ (takeEvent_capInsufficient info s)).symm.trans h) .eventCapInsufficient
  | eventAckTimeout info =>
    exact effect_of_next ((congrArg _ (takeEvent_ackTimeout info s)).symm.trans h) .eventAckTimeout
  | eventMalformedReply => exact effect_of_next h .eventMalformedReply
  | eventCancelled info => exact effect_of_next ((congrArg _ (takeEvent_cancelled info s)).symm.trans h) .eventCancelled
  | eventDecReject => exact effect_of_next h .eventDecReject
  | paceAnchor => exact effect_of_next h .paceAnchor
  | paceGate => exact effect_of_next h .paceGate
  | cfgWrite => exact effect_of_next h .cfgWrite
  | reset => exact effect_of_next h .reset
  | recon =>
    obtain ⟨_, ht⟩ := legal_of_guarded h
    exact effect_of_next ht .recon
  | encSample =>
    obtain ⟨_, ht⟩ := legal_of_guarded h
    exact effect_of_next ht .encSample
  | encLoad =>
    obtain ⟨hk, ht⟩ := legal_of_guarded h
    exact effect_of_next ht (.encLoad hk)
  | decLoad =>
    obtain ⟨hk, ht⟩ := legal_of_guarded h
    exact effect_of_next ht (.decLoad hk)
  | framePush x =>
    obtain ⟨_, hs, rfl⟩ := exec_framePush_eq_next.1 h
    rw [framePush_frame]
    exact .framePush hs
  | framePad =>
    obtain ⟨hpos, _, hs, rfl⟩ := exec_framePad_eq_next.1 h
    rw [framePad_frame]
    exact .framePad hpos hs
  | frameClose =>
    obtain ⟨_, rfl⟩ := exec_frameClose_eq_next.1 h
    exact .frameClose
  | encFrame xs =>
    obtain ⟨hpos, _, _, hs, rfl⟩ := exec_encFrame_eq_next.1 h
    rw [encFrame_eq hpos, ← frameSamplesGiven, frameClose_framePushAll_frame]
    exact .encFrame hs hpos
  | paceMark =>
    obtain ⟨hfits, rfl⟩ := exec_paceMark_eq_next.1 h
    exact .paceMark hfits
  | tick =>
    obtain ⟨hnow, rfl⟩ := exec_tick_eq_next.1 h
    exact .tick hnow
  | _ => exact decodeCode_effect rfl h

end Sys2Proof.Machine

/-! ## Proofs: what each operation leaves alone (10_state.md R13 to R31) -/

namespace Sys2Proof.Machine

/-! ### The two sides -/

/-- The steps of the streaming side leave everything but `ENC`, the packetizer, the pacer, the transport, the sample
source and the outputs. -/
theorem StreamEffect.frame {i : Instr} {s t : State} (h : StreamEffect i s t) :
    t.cfg = s.cfg ∧ t.dec = s.dec ∧ t.decRejects = s.decRejects ∧ t.lsn = s.lsn ∧ t.xfer = s.xfer ∧
      t.now = s.now ∧ t.file = s.file ∧ t.ret = s.ret ∧ t.sends = s.sends ∧ t.script = s.script ∧
      t.inbox = s.inbox := by
  cases h <;> exact ⟨rfl, rfl, rfl, rfl, rfl, rfl, rfl, rfl, rfl, rfl, rfl⟩

/-- The steps of the transfer side leave everything but the listener, the transfer unit and the outputs. -/
theorem TransferEffect.frame {i : Instr} {s t : State} (h : TransferEffect i s t) :
    t.cfg = s.cfg ∧ t.enc = s.enc ∧ t.dec = s.dec ∧ t.decRejects = s.decRejects ∧ t.pkt = s.pkt ∧
      t.pacer = s.pacer ∧ t.stx = s.stx ∧ t.now = s.now ∧ t.file = s.file ∧ t.ret = s.ret ∧
      t.playback = s.playback ∧ t.sends = s.sends ∧ t.script = s.script ∧ t.inbox = s.inbox := by
  cases h <;> exact ⟨rfl, rfl, rfl, rfl, rfl, rfl, rfl, rfl, rfl, rfl, rfl, rfl, rfl, rfl⟩

theorem StreamEffect.outputs {i : Instr} {s t : State} (h : StreamEffect i s t) :
    ∃ new, t.outputs = new ++ s.outputs := by
  cases h with
  | restarted => exact ⟨[_], rfl⟩
  | sent => exact ⟨_ ++ [_], (List.append_assoc _ [_] _).symm⟩
  | overrun => exact ⟨[_], rfl⟩
  | _ => exact ⟨[], rfl⟩

theorem TransferEffect.outputs {i : Instr} {s t : State} (h : TransferEffect i s t) :
    ∃ new, t.outputs = new ++ s.outputs := by
  cases h with
  | startIgnored | replyHeard | ackHeard | chunkAcked => exact ⟨[], rfl⟩
  | acceptedEmpty => exact ⟨[_, _], rfl⟩
  | _ => exact ⟨[_], rfl⟩

/-- What was emitted stays emitted (00_scope.md R9). -/
theorem Effect.outputs {i : Instr} {s t : State} (h : Effect i s t) : ∃ new, t.outputs = new ++ s.outputs := by
  cases h with
  | stream h => exact h.outputs
  | transfer h => exact h.outputs
  | freeHeard h => exact h.outputs
  | ackHeard h => exact h.outputs
  | cancelled => exact ⟨cancelReports s, rfl⟩
  | datagramRejected | datagramDecoded | emitted | eventTxSendFail | eventCaptureOverrun | eventCapNoReply
  | eventCapInsufficient | eventAckTimeout | eventMalformedReply | eventCancelled | eventDecReject =>
    exact ⟨[_], rfl⟩
  | _ => exact ⟨[], rfl⟩

/-! ### The owners of each register -/

theorem decoderCode_writes {i : Instr} {c : Code} (h : decoderCode i = some c) :
    i.writesDec = true ∧ i.writesRet = true := by
  cases i <;> first | exact ⟨rfl, rfl⟩ | exact absurd h (by simp [decoderCode])

theorem datagramOf_writes {i : Instr} {b : List Byte} (h : datagramOf i = some b) :
    i.writesDec = true ∧ i.writesRejects = true := by
  cases i <;> first | exact ⟨rfl, rfl⟩ | exact absurd h (by simp [datagramOf])

/-- The time, the configuration, the file and the inputs are changed by `TICK`, `CFG_WRITE` and `RESET` at most. -/
theorem Effect.environment {i : Instr} {s t : State} (h : Effect i s t) :
    t.file = s.file ∧ (t.now ≠ s.now → ∃ w, i = .tick w) ∧
      (t.cfg ≠ s.cfg → i = .reset ∨ ∃ name v, i = .cfgWrite name v) ∧
      t.sends = s.sends ∧ t.script = s.script ∧ t.inbox = s.inbox := by
  have hsame {u : State} (hfile : u.file = s.file) (hnow : u.now = s.now) (hcfg : u.cfg = s.cfg)
      (hsends : u.sends = s.sends) (hscript : u.script = s.script) (hinbox : u.inbox = s.inbox) :
      u.file = s.file ∧ (u.now ≠ s.now → ∃ w, i = .tick w) ∧
        (u.cfg ≠ s.cfg → i = .reset ∨ ∃ name v, i = .cfgWrite name v) ∧
        u.sends = s.sends ∧ u.script = s.script ∧ u.inbox = s.inbox :=
    ⟨hfile, fun hne => absurd hnow hne, fun hne => absurd hcfg hne, hsends, hscript, hinbox⟩
  cases h with
  | stream h =>
    obtain ⟨hcfg, _, _, _, _, hnow, hfile, _, hsends, hscript, hinbox⟩ := h.frame
    exact hsame hfile hnow hcfg hsends hscript hinbox
  | transfer h | freeHeard h | ackHeard h =>
    obtain ⟨hcfg, _, _, _, _, _, _, hnow, hfile, _, _, hsends, hscript, hinbox⟩ := h.frame
    exact hsame hfile hnow hcfg hsends hscript hinbox
  | tick h => exact ⟨rfl, fun _ => ⟨_, rfl⟩, fun hne => absurd rfl hne, rfl, rfl, rfl⟩
  | cfgWrite => exact ⟨rfl, fun hne => absurd rfl hne, fun _ => .inr ⟨_, _, rfl⟩, rfl, rfl, rfl⟩
  | reset => exact ⟨rfl, fun hne => absurd rfl hne, fun _ => .inl rfl, rfl, rfl, rfl⟩
  | _ => exact hsame rfl rfl rfl rfl rfl rfl

/-- Both codec states, the reject counter and the returned value are changed by their owners only. -/
theorem Effect.codecOwners {i : Instr} {s t : State} (h : Effect i s t) :
    (t.enc ≠ s.enc → i.writesEnc = true) ∧ (t.dec ≠ s.dec → i.writesDec = true) ∧
      (t.decRejects ≠ s.decRejects → i.writesRejects = true) ∧ (t.ret ≠ s.ret → i.writesRet = true) := by
  cases h with
  | stream h =>
    cases h <;> refine ⟨?_, ?_, ?_, ?_⟩ <;> first | exact fun _ => rfl | exact fun hne => absurd rfl hne
  | transfer h | freeHeard h | ackHeard h =>
    obtain ⟨_, henc, hdec, hrej, _, _, _, _, _, hret, _⟩ := h.frame
    exact ⟨fun hne => absurd henc hne, fun hne => absurd hdec hne, fun hne => absurd hrej hne,
      fun hne => absurd hret hne⟩
  | code hi =>
    obtain ⟨hdec, hret⟩ := decoderCode_writes hi
    exact ⟨fun hne => absurd rfl hne, fun _ => hdec, fun hne => absurd rfl hne, fun _ => hret⟩
  | datagramRejected hi | datagramDecoded hi =>
    obtain ⟨hdec, hrej⟩ := datagramOf_writes hi
    exact ⟨fun hne => absurd rfl hne, fun _ => hdec, fun _ => hrej, fun hne => absurd rfl hne⟩
  | _ => refine ⟨?_, ?_, ?_, ?_⟩ <;> first | exact fun _ => rfl | exact fun hne => absurd rfl hne

/-- The packetizer's registers are changed by their owners only. -/
theorem Effect.packetOwners {i : Instr} {s t : State} (h : Effect i s t) :
    (t.pkt.seq ≠ s.pkt.seq → i.writesSeq = true) ∧
      (t.pkt.hdrPredictor ≠ s.pkt.hdrPredictor ∨ t.pkt.hdrStepIndex ≠ s.pkt.hdrStepIndex →
        i.writesSnapshot = true) ∧
      (t.pkt.pos ≠ s.pkt.pos ∨ t.pkt.payload ≠ s.pkt.payload → i.writesFrame = true) ∧
      (t.pkt.out ≠ s.pkt.out → i.writesOut = true) := by
  have hsame {u : State} {j : Instr} (hpkt : u.pkt = s.pkt) :
      (u.pkt.seq ≠ s.pkt.seq → j.writesSeq = true) ∧
        (u.pkt.hdrPredictor ≠ s.pkt.hdrPredictor ∨ u.pkt.hdrStepIndex ≠ s.pkt.hdrStepIndex →
          j.writesSnapshot = true) ∧
        (u.pkt.pos ≠ s.pkt.pos ∨ u.pkt.payload ≠ s.pkt.payload → j.writesFrame = true) ∧
        (u.pkt.out ≠ s.pkt.out → j.writesOut = true) := by
    simp [hpkt]
  cases h with
  | stream h =>
    cases h with
    | started => exact ⟨fun _ => rfl, by simp, fun _ => rfl, fun _ => rfl⟩
    | frameGrown | frameFilled => exact ⟨fun _ => rfl, fun _ => rfl, fun _ => rfl, fun _ => rfl⟩
    | lastFrameClosed _ _ hpos =>
      obtain ⟨hp, hi⟩ := framePushAll_hdr_of_pos hpos (List.replicate (s.stx.cfg.frameSamples - s.pkt.pos) 0)
      exact ⟨fun _ => rfl, fun hne => hne.elim (absurd hp) (absurd hi), fun _ => rfl, fun _ => rfl⟩
    | sent => exact ⟨by simp, by simp, by simp, fun _ => rfl⟩
    | _ => exact hsame rfl
  | transfer h | freeHeard h | ackHeard h =>
    obtain ⟨_, _, _, _, hpkt, _⟩ := h.frame
    exact hsame hpkt
  | cancelled => exact ⟨by split <;> simp, by split <;> simp, fun _ => rfl, fun _ => rfl⟩
  | eventCancelled => exact ⟨by split <;> simp, by split <;> simp, fun _ => rfl, fun _ => rfl⟩
  | @framePush x _ hs =>
    obtain ⟨hseq, hout⟩ := framePushAll_seq [x] s
    exact ⟨fun hne => absurd hseq hne, fun _ => rfl, fun _ => rfl, fun hne => absurd hout hne⟩
  | framePad hpos hs =>
    obtain ⟨hseq, hout⟩ := framePushAll_seq (List.replicate (s.stx.cfg.frameSamples - s.pkt.pos) 0) s
    obtain ⟨hp, hi⟩ := framePushAll_hdr_of_pos hpos (List.replicate (s.stx.cfg.frameSamples - s.pkt.pos) 0)
    exact ⟨fun hne => absurd hseq hne, fun hne => hne.elim (absurd hp) (absurd hi), fun _ => rfl,
      fun hne => absurd hout hne⟩
  | frameClose => exact ⟨fun _ => rfl, fun hne => hne.elim (absurd rfl) (absurd rfl), fun _ => rfl, fun _ => rfl⟩
  | encFrame | reset => exact ⟨fun _ => rfl, fun _ => rfl, fun _ => rfl, fun _ => rfl⟩
  | _ => exact hsame rfl

/-- The pacer, the transport and the memory of the sample source are changed by their owners only. -/
theorem Effect.transportOwners {i : Instr} {s t : State} (h : Effect i s t) :
    (t.pacer ≠ s.pacer → i.writesPacer = true) ∧ (t.stx.state ≠ s.stx.state → i.writesStxState = true) ∧
      (t.stx.eof ≠ s.stx.eof → i.writesEof = true) ∧
      (t.stx.mode ≠ s.stx.mode ∨ t.stx.loop ≠ s.stx.loop ∨ t.stx.cfg ≠ s.stx.cfg → i.writesStxRecord = true) ∧
      (t.stx.txFailCount ≠ s.stx.txFailCount → i.writesTxFails = true) ∧
      (t.stx.overrunCount ≠ s.stx.overrunCount → i.writesOverruns = true) ∧
      (t.playback ≠ s.playback → i.writesPlayback = true) := by
  have hsame {u : State} {j : Instr} (hpacer : u.pacer = s.pacer) (hstx : u.stx = s.stx)
      (hplayback : u.playback = s.playback) :
      (u.pacer ≠ s.pacer → j.writesPacer = true) ∧ (u.stx.state ≠ s.stx.state → j.writesStxState = true) ∧
        (u.stx.eof ≠ s.stx.eof → j.writesEof = true) ∧
        (u.stx.mode ≠ s.stx.mode ∨ u.stx.loop ≠ s.stx.loop ∨ u.stx.cfg ≠ s.stx.cfg → j.writesStxRecord = true) ∧
        (u.stx.txFailCount ≠ s.stx.txFailCount → j.writesTxFails = true) ∧
        (u.stx.overrunCount ≠ s.stx.overrunCount → j.writesOverruns = true) ∧
        (u.playback ≠ s.playback → j.writesPlayback = true) := by
    simp [hpacer, hstx, hplayback]
  cases h with
  | stream h =>
    cases h with
    | startIgnored | overrunIgnored => exact hsame rfl rfl rfl
    | started =>
      exact ⟨fun _ => rfl, fun _ => rfl, fun _ => rfl, fun _ => rfl, by simp, by simp, fun _ => rfl⟩
    | frameGrown => exact ⟨by simp, by simp, by simp, by simp, by simp, by simp, fun _ => rfl⟩
    | frameFilled => exact ⟨by simp, fun _ => rfl, by simp, by simp, by simp, by simp, fun _ => rfl⟩
    | passEnded => exact ⟨by simp, fun _ => rfl, by simp, by simp, by simp, by simp, by simp⟩
    | lastFrameClosed => exact ⟨by simp, fun _ => rfl, fun _ => rfl, by simp, by simp, by simp, by simp⟩
    | restarted => exact ⟨fun _ => rfl, fun _ => rfl, by simp, by simp, by simp, by simp, fun _ => rfl⟩
    | @sent r =>
      refine ⟨fun _ => rfl, fun _ => rfl, fun _ => rfl, by simp, ?_, by simp, by simp⟩
      cases r with
      | ok => simp
      | fail => exact fun _ => rfl
    | overrun => exact ⟨by simp, by simp, by simp, by simp, by simp, fun _ => rfl, by simp⟩
  | transfer h | freeHeard h | ackHeard h =>
    obtain ⟨_, _, _, _, _, hpacer, hstx, _, _, _, hplayback, _⟩ := h.frame
    exact hsame hpacer hstx hplayback
  | cancelled =>
    refine ⟨by simp, fun _ => rfl, fun _ => rfl, ?_, ?_, ?_, by simp⟩ <;> split <;> simp
  | eventCancelled =>
    refine ⟨by simp, fun _ => rfl, fun _ => rfl, ?_, ?_, ?_, by simp⟩ <;> split <;> simp
  | eventTxSendFail => exact ⟨by simp, by simp, by simp, by simp, fun _ => rfl, by simp, by simp⟩
  | eventCaptureOverrun => exact ⟨by simp, by simp, by simp, by simp, by simp, fun _ => rfl, by simp⟩
  | paceAnchor | paceMark => exact ⟨fun _ => rfl, by simp, by simp, by simp, by simp, by simp, by simp⟩
  | reset =>
    exact ⟨fun _ => rfl, fun _ => rfl, fun _ => rfl, fun _ => rfl, fun _ => rfl, fun _ => rfl, fun _ => rfl⟩
  | _ => exact hsame rfl rfl rfl

/-- The listener's cells and counter are changed by their owners only. -/
theorem Effect.listenerOwners {i : Instr} {s t : State} (h : Effect i s t) :
    (t.lsn.capReply ≠ s.lsn.capReply → i.writesReplyCell = true) ∧
      (t.lsn.lastAck ≠ s.lsn.lastAck → i.writesAckCell = true) ∧
      (t.lsn.malformedCount ≠ s.lsn.malformedCount → i.writesMalformed = true) := by
  cases h with
  | stream h =>
    obtain ⟨_, _, _, hlsn, _⟩ := h.frame
    simp [hlsn]
  | transfer h =>
    cases h <;> refine ⟨?_, ?_, ?_⟩ <;> first | exact fun _ => rfl | exact fun hne => absurd rfl hne
  | freeHeard h =>
    cases h <;> exact ⟨fun _ => rfl, fun hne => absurd rfl hne, fun _ => rfl⟩
  | ackHeard h =>
    cases h <;> exact ⟨fun hne => absurd rfl hne, fun _ => rfl, fun _ => rfl⟩
  | eventMalformedReply => exact ⟨fun hne => absurd rfl hne, fun hne => absurd rfl hne, fun _ => rfl⟩
  | reset => exact ⟨fun _ => rfl, fun _ => rfl, fun _ => rfl⟩
  | _ => exact ⟨fun hne => absurd rfl hne, fun hne => absurd rfl hne, fun hne => absurd rfl hne⟩

/-- The transfer unit's registers are changed by their owners only. -/
theorem Effect.transferOwners {i : Instr} {s t : State} (h : Effect i s t) :
    (t.xfer.state ≠ s.xfer.state → i.writesXferState = true) ∧
      (t.xfer.idx ≠ s.xfer.idx ∨ t.xfer.lastAcked ≠ s.xfer.lastAcked → i.writesIdx = true) ∧
      (t.xfer.total ≠ s.xfer.total ∨ t.xfer.fileSize ≠ s.xfer.fileSize ∨ t.xfer.cfg ≠ s.xfer.cfg →
        i.writesXferRecord = true) ∧
      (t.xfer.deadline ≠ s.xfer.deadline → i.writesDeadline = true) := by
  cases h with
  | stream h =>
    obtain ⟨_, _, _, _, hxfer, _⟩ := h.frame
    simp [hxfer]
  | transfer h =>
    cases h <;> refine ⟨?_, ?_, ?_, ?_⟩ <;> first | exact fun _ => rfl | simp
  | freeHeard h => cases h <;> simp
  | ackHeard h => cases h <;> simp
  | cancelled | eventCapNoReply | eventCapInsufficient | eventAckTimeout | eventCancelled =>
    refine ⟨fun _ => rfl, ?_, ?_, ?_⟩ <;> dsimp only <;> split <;> simp
  | reset => exact ⟨fun _ => rfl, fun _ => rfl, fun _ => rfl, fun _ => rfl⟩
  | _ => simp

/-- Settles O60: the owners of each group of registers. -/
theorem onlyOwnersWrite : Obligations.OnlyOwnersWrite := by
  intro i s t hexec
  have h := effect_of_exec hexec
  obtain ⟨hfile, hnow, hcfg, hsends, hscript, hinbox⟩ := h.environment
  obtain ⟨henc, hdec, hrejects, hret⟩ := h.codecOwners
  obtain ⟨hseq, hsnapshot, hframe, hout⟩ := h.packetOwners
  obtain ⟨hpacer, hstate, heof, hrecord, htx, hoverrun, hplayback⟩ := h.transportOwners
  obtain ⟨hreply, hack, hmalformed⟩ := h.listenerOwners
  obtain ⟨hxstate, hidx, hxrecord, hdeadline⟩ := h.transferOwners
  exact ⟨hfile, h.outputs, hnow, hcfg, henc, hdec, hrejects, hseq, hsnapshot, hframe, hout, hpacer, hstate, heof,
    hrecord, htx, hoverrun, hreply, hack, hmalformed, hxstate, hidx, hxrecord, hdeadline, hret, hplayback, hsends,
    hscript, hinbox⟩

end Sys2Proof.Machine

/-! ## Proofs: what the priority order selects (60_exceptions.md R242) -/

namespace Sys2Proof.Machine

/-! ### What is taken from the inbox -/

/-- The arrivals that wait for the sample port: samples and the end of the source (43_transport.md R166). -/
def needsSamplePort : Arrival → Bool
  | .pcm _ => true
  | .pcmEof => true
  | _ => false

theorem arrivalClass_of_needsSamplePort {a : Arrival} (h : needsSamplePort a = true) : arrivalClass a = 6 := by
  cases a <;> first | rfl | exact absurd h Bool.false_ne_true

/-- An arrival passed over stays in front of what is left. -/
def passing (b : Arrival) (o : Option (Arrival × List Arrival)) : Option (Arrival × List Arrival) :=
  o.map fun p => (p.1, b :: p.2)

theorem passing_eq_some {b a : Arrival} {o : Option (Arrival × List Arrival)} {rest : List Arrival}
    (h : passing b o = some (a, rest)) : ∃ l, o = some (a, l) := by
  obtain ⟨⟨c, l⟩, ho, hc⟩ := Option.map_eq_some_iff.1 h
  obtain ⟨rfl, _⟩ := Prod.mk.inj hc
  exact ⟨l, ho⟩

theorem arrivalClass_of_takeClass {k : Nat} {l rest : List Arrival} {a : Arrival} (h7 : k ≠ 7)
    (h : takeClass k l = some (a, rest)) : arrivalClass a = k := by
  rw [takeClass_eq h7] at h
  obtain ⟨b, hb, heq⟩ := Option.map_eq_some_iff.1 h
  obtain ⟨rfl, _⟩ := Prod.mk.inj heq
  have hk := List.find?_some hb
  exact beq_iff_eq.1 hk

/-- A command is taken from the classes 1 to 3. -/
theorem arrivalClass_of_takeCommand {l rest : List Arrival} {a : Arrival} (h : takeCommand l = some (a, rest)) :
    arrivalClass a < 4 := by
  rw [takeCommand] at h
  split at h
  next p hp =>
    obtain rfl := Option.some.inj h
    rw [arrivalClass_of_takeClass (by decide) hp]
    decide
  next =>
    split at h
    next p hp =>
      obtain rfl := Option.some.inj h
      rw [arrivalClass_of_takeClass (by decide) hp]
      decide
    next =>
      rw [arrivalClass_of_takeClass (by decide) h]
      decide

/-- What the data ports take: any datagram, and behind nothing held an overrun, or a sample or end mark while the sample
port is ready (log 24). -/
def takesData (ready held : Bool) : Arrival → Bool
  | .dgram _ => true
  | .pcm _ => ready && !held
  | .pcmEof => ready && !held
  | .pcmOverrun => !held
  | .resetIn => false
  | .cmd _ _ => false
  | .cfg _ _ => false
  | .msg _ _ => false
  | .tick _ => false

/-- The arrivals that hold the sample port while they wait. -/
def holdsSamplePort : Arrival → Bool
  | .pcm _ => true
  | .pcmEof => true
  | .pcmOverrun => true
  | .dgram _ => false
  | .resetIn => false
  | .cmd _ _ => false
  | .cfg _ _ => false
  | .msg _ _ => false
  | .tick _ => false

theorem takeData_cons (ready held : Bool) (b : Arrival) (l : List Arrival) :
    takeData ready held (b :: l) =
      if arrivalClass b = 7 then none
      else if takesData ready held b then some (b, l)
      else passing b (takeData ready (held || holdsSamplePort b) l) := by
  cases b with
  | tick | dgram => simp [takeData, arrivalClass, takesData]
  | pcm | pcmEof | pcmOverrun =>
    cases h : takeData ready true l <;> simp [takeData, arrivalClass, takesData, holdsSamplePort, passing, h]
  | resetIn | cfg | msg =>
    cases h : takeData ready held l <;> simp [takeData, arrivalClass, takesData, holdsSamplePort, passing, h]
  | cmd code arg =>
    have h7 : arrivalClass (.cmd code arg) ≠ 7 := by
      rw [arrivalClass]
      split <;> decide
    cases h : takeData ready held l <;> simp [takeData, h7, takesData, holdsSamplePort, passing, h]

theorem takeTick_cons (b : Arrival) (l : List Arrival) :
    takeTick (b :: l) = if arrivalClass b = 7 then some (b, l) else passing b (takeTick l) := by
  cases h : takeTick l <;> simp [takeTick, passing, h]

/-- What is taken for the data ports is of class 6, and a sample or end mark only while the sample port is ready. -/
theorem takeData_some {ready held : Bool} {l rest : List Arrival} {a : Arrival}
    (h : takeData ready held l = some (a, rest)) :
    arrivalClass a = 6 ∧ (needsSamplePort a = true → ready = true) := by
  induction l generalizing held rest with
  | nil => simp [takeData] at h
  | cons b l ih =>
    rw [takeData_cons] at h
    split_ifs at h with h7 htakes
    · obtain ⟨rfl, rfl⟩ := Prod.mk.inj (Option.some.inj h)
      cases b with
      | dgram | pcmOverrun => exact ⟨rfl, fun hn => absurd hn Bool.false_ne_true⟩
      | pcm | pcmEof => exact ⟨rfl, fun _ => (Bool.and_eq_true_iff.1 htakes).1⟩
      | _ => exact absurd htakes Bool.false_ne_true
    · obtain ⟨rest', h'⟩ := passing_eq_some h
      exact ih h'

theorem arrivalClass_of_takeTick {l rest : List Arrival} {a : Arrival} (h : takeTick l = some (a, rest)) :
    arrivalClass a = 7 := by
  induction l generalizing rest with
  | nil => simp [takeTick] at h
  | cons b l ih =>
    rw [takeTick_cons] at h
    split_ifs at h with h7
    · obtain ⟨rfl, rfl⟩ := Prod.mk.inj (Option.some.inj h)
      exact h7
    · obtain ⟨rest', h'⟩ := passing_eq_some h
      exact ih h'

/-! ### The hardware's choice -/

/-- What the hardware may choose, with nothing issued: an arrival, a sample only while its port is ready and a `TICK`
only with no internal step enabled; a message nobody hears, dropped; an internal step of either side; or to wait. -/
inductive HardwareChoice (s : State) : Selected → Prop
  | arrival {a : Arrival} {i : Instr} {inbox : List Arrival} (hi : arrivalInstr a = some i)
      (hready : needsSamplePort a = true → sampleReady s = true)
      (htick : arrivalClass a = 7 → transferStep s = none ∧ streamStep s = none) :
      HardwareChoice s (.run i { s with inbox := inbox })
  | dropped {inbox : List Arrival} : HardwareChoice s (.drop { s with inbox := inbox })
  | transferStep {i : Instr} (h : transferStep s = some i) : HardwareChoice s (.run i s)
  | streamStep {i : Instr} {u : State} (h : streamStep s = some (i, u)) : HardwareChoice s (.run i u)
  | waits : HardwareChoice s .wait

theorem hardwareChoice_of_takeArrival {s : State} {a : Arrival} {rest : List Arrival}
    (hready : needsSamplePort a = true → sampleReady s = true)
    (htick : arrivalClass a = 7 → transferStep s = none ∧ streamStep s = none) :
    HardwareChoice s (takeArrival s a rest) := by
  rw [takeArrival]
  split
  next hi => exact .arrival hi hready htick
  next => exact .dropped

/-- An arrival of the classes 1 to 4 is neither a sample nor a `TICK`. -/
theorem hardwareChoice_of_urgent {s : State} {a : Arrival} {rest : List Arrival} (h : arrivalClass a ≤ 4) :
    HardwareChoice s (takeArrival s a rest) :=
  hardwareChoice_of_takeArrival (fun hn => by rw [arrivalClass_of_needsSamplePort hn] at h; omega)
    (fun h7 => by omega)

theorem hardwareChoice_scheduleRest (s : State) : HardwareChoice s (scheduleRest s) := by
  rw [scheduleRest]
  split
  next hmsg => exact hardwareChoice_of_urgent (arrivalClass_of_takeClass (by decide) hmsg).le
  next =>
    split
    next htransfer => exact .transferStep htransfer
    next htransfer =>
      split
      next hstream => exact .streamStep hstream
      next hstream =>
        split
        next hdata =>
          obtain ⟨hclass, hready⟩ := takeData_some hdata
          exact hardwareChoice_of_takeArrival hready fun h7 => by omega
        next =>
          split
          next htick =>
            refine hardwareChoice_of_takeArrival (fun hn => ?_) fun _ => ⟨htransfer, hstream⟩
            have h6 := arrivalClass_of_needsSamplePort hn
            have h7 := arrivalClass_of_takeTick htick
            omega
          next => exact .waits

/-- With nothing issued, every selection is one of the hardware's choices. -/
theorem hardwareChoice {s : State} (hs : s.script = []) : HardwareChoice s (select s) := by
  rw [select_hardware hs, schedule]
  split
  next hcmd => exact hardwareChoice_of_urgent (arrivalClass_of_takeCommand hcmd).le
  next =>
    split
    next hack => exact .transferStep (if_pos hack)
    next => exact hardwareChoice_scheduleRest s

/-! ### The enabled internal steps -/

theorem transferStep_eq_none_iff (s : State) :
    transferStep s = none ↔ ackMatchEnabled s = false ∧ ackTimeoutEnabled s = false ∧ capDecideEnabled s = false ∧
      capTimeoutEnabled s = false ∧ sendChunkEnabled s = false := by
  simp [transferStep, ite_eq_iff]

theorem streamStep_eq_none_iff (s : State) :
    streamStep s = none ↔ sendFrameEnabled s = false ∧ loopRestartEnabled s = false := by
  simp [streamStep, ite_eq_iff]

theorem internalEnabled_eq_false_iff (s : State) :
    internalEnabled s = false ↔ transferStep s = none ∧ streamStep s = none := by
  simp only [internalEnabled, transferStep_eq_none_iff, streamStep_eq_none_iff, Bool.or_eq_false_iff]
  tauto

theorem arrivalInstr_eq_tick {a : Arrival} {w : TimeWord} (h : arrivalInstr a = some (.tick w)) : a = .tick w := by
  cases a with
  | tick => simpa [arrivalInstr] using h
  | cmd code arg =>
    simp only [arrivalInstr, commandInstr] at h
    split_ifs at h <;> simp at h
  | msg topic => cases topic <;> simp [arrivalInstr] at h
  | _ => simp [arrivalInstr] at h

/-- An operation other than `TICK` leaves the time. -/
theorem now_of_exec {i : Instr} {s t : State} (hi : ∀ w, i ≠ .tick w) (h : exec i s = .next t) : t.now = s.now := by
  obtain ⟨_, hnow, _⟩ := (effect_of_exec h).environment
  by_contra hne
  obtain ⟨w, hw⟩ := hnow hne
  exact hi w hw

theorem step_of_select_run {s u : State} {i : Instr} (h : select s = .run i u) : step s = exec i u := by
  rw [step, h]

theorem step_of_select_drop {s u : State} (h : select s = .drop u) : step s = .next u := by
  rw [step, h]

theorem step_of_select_wait {s : State} (h : select s = .wait) : step s = .next s := by
  rw [step, h]

/-- Settles O49: a `TICK` is taken only with no internal step enabled, and nothing else moves the time. -/
theorem enabledStepsHoldTime : Obligations.EnabledStepsHoldTime := by
  intro s t hs henabled hstep
  have hchoice := hardwareChoice hs
  generalize hsel : select s = sel at hchoice
  cases hchoice with
  | @arrival _ _ inbox hi _ htick =>
    rw [step_of_select_run hsel] at hstep
    refine now_of_exec (s := { s with inbox := inbox }) (fun w hw => ?_) hstep
    subst hw
    obtain rfl := arrivalInstr_eq_tick hi
    rw [(internalEnabled_eq_false_iff s).2 (htick rfl)] at henabled
    exact Bool.false_ne_true henabled
  | dropped =>
    rw [step_of_select_drop hsel] at hstep
    obtain rfl := Host.Outcome.next.inj hstep
    rfl
  | transferStep h =>
    rw [step_of_select_run hsel] at hstep
    obtain ⟨rfl, _⟩ | ⟨rfl, _⟩ | ⟨rfl, _⟩ | ⟨rfl, _⟩ | ⟨rfl, _⟩ := transferStep_some h <;>
      exact now_of_exec (by simp) hstep
  | streamStep h =>
    rw [step_of_select_run hsel] at hstep
    obtain ⟨rfl, rfl, _⟩ | ⟨rfl, rfl, _⟩ := streamStep_some h
    · exact now_of_exec (s := s.withSends (s.sends + 1)) (by simp) hstep
    · exact now_of_exec (by simp) hstep
  | waits =>
    rw [step_of_select_wait hsel] at hstep
    obtain rfl := Host.Outcome.next.inj hstep
    rfl

/-! ### Classes 1 to 4 -/

/-- Taking an arrival is running its operation, or nothing, without it. -/
theorem step_of_takeArrival {s : State} {a : Arrival} {rest : List Arrival}
    (h : select s = takeArrival s a rest) : step s = runArrival a { s with inbox := rest } := by
  rw [step, h, takeArrival, runArrival]
  cases arrivalInstr a <;> rfl

/-- No class below the highest offered is taken. -/
theorem takeClass_none_of_offered {s : State} {j k : Nat} (hk : ∀ b ∈ offeredNow s, k ≤ arrivalClass b) (hj : j < k)
    (h7 : j ≠ 7) : takeClass j s.inbox = none := by
  rw [takeClass_none h7]
  exact fun a ha heq => absurd (hk a ha) (by omega)

theorem takeClass_of_offered {s : State} {k : Nat} {a : Arrival} (h7 : k ≠ 7)
    (ha : (offeredNow s).find? (fun b => arrivalClass b == k) = some a) :
    takeClass k s.inbox = some (a, s.inbox.eraseP fun b => arrivalClass b == k) := by
  rw [takeClass_eq h7, ← offeredNow, ha]
  rfl

/-- Below the commands, an acknowledgment that matches is acted on first (log 23). -/
theorem select_of_no_command {s : State} (hs : s.script = []) (hcmd : ∀ b ∈ offeredNow s, 4 ≤ arrivalClass b) :
    select s = if ackMatchEnabled s then .run .xferAckMatch s else scheduleRest s := by
  rw [select_hardware hs, schedule, (takeCommand_none s.inbox).2 hcmd]

/-- The first offered arrival of the highest class, 1 to 4, is selected. -/
theorem select_of_urgent {s : State} {k : Nat} {a : Arrival} (hs : s.script = []) (h1 : 1 ≤ k) (h4 : k ≤ 4)
    (hack : k = 4 → ackMatchEnabled s = false) (hk : ∀ b ∈ offeredNow s, k ≤ arrivalClass b)
    (ha : (offeredNow s).find? (fun b => arrivalClass b == k) = some a) :
    select s = takeArrival s a (s.inbox.eraseP fun b => arrivalClass b == k) := by
  have htake := takeClass_of_offered (by omega) ha
  have hnone {j : Nat} (hj : j < k) := takeClass_none_of_offered hk hj (by omega)
  obtain rfl | rfl | rfl | rfl : k = 1 ∨ k = 2 ∨ k = 3 ∨ k = 4 := by omega
  · simp only [select_hardware hs, schedule, takeCommand, htake]
  · simp only [select_hardware hs, schedule, takeCommand, hnone (j := 1) (by omega), htake]
  · simp only [select_hardware hs, schedule, takeCommand, hnone (j := 1) (by omega), hnone (j := 2) (by omega), htake]
  · rw [select_of_no_command hs hk, hack rfl]
    simp only [scheduleRest, htake]
    rfl

/-- Settles O47. -/
theorem urgentArrivalsComeFirst : Obligations.UrgentArrivalsComeFirst := by
  refine ⟨fun s k a hs h1 h4 hack hk ha => step_of_takeArrival (select_of_urgent hs h1 h4 hack hk ha),
    fun s hs hcmd hack => step_of_select_run ?_, ⟨rfl, rfl⟩, fun _ => ⟨rfl, rfl⟩, fun _ _ h => if_neg h,
    fun _ => ⟨rfl, rfl, rfl⟩, fun _ _ => ⟨rfl, rfl⟩, fun topic _ => ⟨rfl, ?_⟩, fun _ => ⟨rfl, rfl⟩, ⟨rfl, rfl⟩,
    ⟨rfl, rfl⟩, fun _ => ⟨rfl, rfl⟩, fun _ => ⟨rfl, rfl⟩⟩
  · rw [select_of_no_command hs hcmd, if_pos hack]
  · cases topic <;> rfl

/-! ### Classes 5 to 7 -/

/-- With nothing urgent offered, an enabled internal step of the transfer side is selected. -/
theorem select_of_transferStep {s : State} {i : Instr} (hs : s.script = [])
    (hlow : ∀ b ∈ offeredNow s, 5 ≤ arrivalClass b) (h : transferStep s = some i) : select s = .run i s := by
  rw [select_of_no_command hs fun b hb => (Nat.le_succ 4).trans (hlow b hb)]
  split
  next hack =>
    rw [transferStep, if_pos hack] at h
    rw [Option.some.inj h]
  next => rw [scheduleRest, takeClass_none_of_offered hlow (by omega) (by omega), h]

/-- With nothing urgent offered and no internal step of the transfer side enabled, the streaming side's is selected. -/
theorem select_of_streamStep {s u : State} {i : Instr} (hs : s.script = [])
    (hlow : ∀ b ∈ offeredNow s, 5 ≤ arrivalClass b) (hnone : transferStep s = none)
    (h : streamStep s = some (i, u)) : select s = .run i u := by
  rw [select_of_no_command hs fun b hb => (Nat.le_succ 4).trans (hlow b hb), ((transferStep_eq_none_iff s).1 hnone).1,
    scheduleRest, takeClass_none_of_offered hlow (by omega) (by omega), hnone, h]
  rfl

/-- With nothing urgent offered and no internal step enabled, the selection is below them. -/
theorem select_of_not_internalEnabled {s : State} (hs : s.script = [])
    (hlow : ∀ b ∈ offeredNow s, 5 ≤ arrivalClass b) (h : internalEnabled s = false) :
    (∀ a rest, takeData (sampleReady s) false s.inbox = some (a, rest) → select s = takeArrival s a rest) ∧
      (takeData (sampleReady s) false s.inbox = none →
        (∀ a rest, takeTick s.inbox = some (a, rest) → select s = takeArrival s a rest) ∧
          (takeTick s.inbox = none → select s = .wait)) := by
  obtain ⟨htransfer, hstream⟩ := (internalEnabled_eq_false_iff s).1 h
  rw [select_of_no_command hs fun b hb => (Nat.le_succ 4).trans (hlow b hb),
    ((transferStep_eq_none_iff s).1 htransfer).1, scheduleRest,
    takeClass_none_of_offered hlow (by omega) (by omega), htransfer, hstream]
  refine ⟨fun a rest hdata => ?_, fun hdata => ⟨fun a rest htick => ?_, fun htick => ?_⟩⟩
  · rw [hdata]
    rfl
  · rw [hdata, htick]
    rfl
  · rw [hdata, htick]
    rfl

theorem transferStep_of_ackTimeout {s : State} (h : ackTimeoutEnabled s = true) :
    transferStep s = some .xferAckTimeout := by
  obtain ⟨_, _, hno⟩ := (ackTimeoutEnabled_iff s).1 h
  have hmatch : ackMatchEnabled s = false := by simp [ackMatchEnabled, hno]
  simp [transferStep, hmatch, h]

theorem transferStep_of_capDecide {s : State} (h : capDecideEnabled s = true) : transferStep s = some .capDecide := by
  obtain ⟨hneg, _⟩ := (capDecideEnabled_iff s).1 h
  simp [transferStep, ackMatchEnabled, ackTimeoutEnabled, hneg, h]

theorem transferStep_of_capTimeout {s : State} (h : capTimeoutEnabled s = true) :
    transferStep s = some .capTimeout := by
  obtain ⟨hneg, hreply, _⟩ := (capTimeoutEnabled_iff s).1 h
  simp [transferStep, ackMatchEnabled, ackTimeoutEnabled, capDecideEnabled, hneg, hreply, h]

theorem transferStep_of_sendChunk {s : State} (h : sendChunkEnabled s = true) :
    transferStep s = some .xferSendChunk := by
  have hsend : s.xfer.state = .sendingChunk := of_decide_eq_true h
  simp [transferStep, ackMatchEnabled, ackTimeoutEnabled, capDecideEnabled, capTimeoutEnabled, hsend, h]

theorem streamStep_of_loopRestart {s : State} (h : loopRestartEnabled s = true) :
    streamStep s = some (.loopRestart, s) := by
  obtain ⟨hwait, _⟩ := (loopRestartEnabled_iff s).1 h
  simp [streamStep, sendFrameEnabled, hwait, h]

/-- Settles O48. -/
theorem internalStepsThenDataThenTime : Obligations.InternalStepsThenDataThenTime := by
  intro s hs hlow
  have htransfer {i : Instr} (h : transferStep s = some i) : step s = exec i s :=
    step_of_select_run (select_of_transferStep hs hlow h)
  refine ⟨fun h => htransfer (if_pos h), fun h => htransfer (transferStep_of_ackTimeout h),
    fun h => htransfer (transferStep_of_capDecide h), fun h => htransfer (transferStep_of_capTimeout h),
    fun h => htransfer (transferStep_of_sendChunk h),
    fun hnone h => ⟨_, step_of_select_run (select_of_streamStep hs hlow hnone (if_pos h))⟩,
    fun hnone h => step_of_select_run (select_of_streamStep hs hlow hnone (streamStep_of_loopRestart h)), fun h => ?_⟩
  obtain ⟨hdata, hrest⟩ := select_of_not_internalEnabled hs hlow h
  refine ⟨fun a rest hin hclass htakes => step_of_takeArrival (hdata a rest ?_), fun w rest hin => ?_,
    fun x w rest hin hready => ?_, fun hin => ?_⟩
  · have htaken : takesData (sampleReady s) false a = true := by
      obtain hready | rfl | ⟨b, rfl⟩ := htakes
      · cases a with
        | pcm | pcmEof => simp [takesData, hready]
        | pcmOverrun | dgram => rfl
        | cmd code =>
          simp only [arrivalClass] at hclass
          split at hclass <;> exact absurd hclass (by decide)
        | _ => exact absurd hclass (by simp [arrivalClass])
      · rfl
      · rfl
    rw [hin, takeData_cons, if_neg (by omega), if_pos htaken]
  · obtain ⟨htick, _⟩ := hrest (by rw [hin]; rfl)
    exact step_of_takeArrival (htick _ rest (by rw [hin]; rfl))
  · obtain ⟨htick, _⟩ := hrest (by rw [hin, hready]; rfl)
    exact step_of_takeArrival (htick _ (.pcm x :: rest) (by rw [hin]; rfl))
  · obtain ⟨_, hwait⟩ := hrest (by rw [hin]; rfl)
    exact step_of_select_wait (hwait (by rw [hin]; rfl))

end Sys2Proof.Machine

/-! ## Proofs: what every step keeps (10_state.md R21, R34) -/

namespace Sys2Proof.Machine

/-! ### From operations to steps -/

/-- The state with other inputs still to come. -/
def State.withInputs (s : State) (sends : Nat) (script : List Transaction) (inbox : List Arrival) : State :=
  { s with sends := sends, script := script, inbox := inbox }

theorem isStep_of_arrivalInstr {a : Arrival} {i : Instr} (h : arrivalInstr a = some i) : i.isStep = true := by
  cases a with
  | cmd code arg =>
    rw [← Option.some.inj h, commandInstr]
    split_ifs <;> rfl
  | msg topic =>
    cases topic with
    | resp | ack => exact Option.some.inj h ▸ rfl
    | req | data | other => exact nomatch h
  | _ => exact Option.some.inj h ▸ rfl

theorem isStep_of_transferStep {s : State} {i : Instr} (h : transferStep s = some i) : i.isStep = true := by
  obtain ⟨rfl, _⟩ | ⟨rfl, _⟩ | ⟨rfl, _⟩ | ⟨rfl, _⟩ | ⟨rfl, _⟩ := transferStep_some h <;> rfl

/-- What a step can be: an operation of the hardware, or an issued one, from the state with its inputs consumed; or
nothing but the consumption. -/
theorem step_eq_next {s t : State} (h : step s = .next t) :
    (∃ i sends script inbox, exec i (s.withInputs sends script inbox) = .next t ∧
      (s.script = [] → i.isStep = true ∧ script = [])) ∨
    ∃ inbox script, t = s.withInputs s.sends script inbox ∧ (s.script = [] → script = []) := by
  cases hs : s.script with
  | nil =>
    have hchoice := hardwareChoice hs
    generalize hsel : select s = sel at hchoice
    cases hchoice with
    | @arrival a i inbox hi =>
      rw [step_of_select_run hsel] at h
      exact .inl ⟨i, s.sends, s.script, inbox, h, fun _ => ⟨isStep_of_arrivalInstr hi, hs⟩⟩
    | @dropped inbox =>
      rw [step_of_select_drop hsel] at h
      exact .inr ⟨inbox, s.script, (Host.Outcome.next.inj h).symm, fun _ => hs⟩
    | @transferStep i hi =>
      rw [step_of_select_run hsel] at h
      exact .inl ⟨i, s.sends, s.script, s.inbox, h, fun _ => ⟨isStep_of_transferStep hi, hs⟩⟩
    | @streamStep i u hi =>
      rw [step_of_select_run hsel] at h
      obtain ⟨rfl, rfl, _⟩ | ⟨rfl, rfl, _⟩ := streamStep_some hi
      · exact .inl ⟨_, s.sends + 1, s.script, s.inbox, h, fun _ => ⟨rfl, hs⟩⟩
      · exact .inl ⟨_, u.sends, u.script, u.inbox, h, fun _ => ⟨rfl, hs⟩⟩
    | waits =>
      rw [step_of_select_wait hsel] at h
      exact .inr ⟨s.inbox, s.script, (Host.Outcome.next.inj h).symm, fun _ => hs⟩
  | cons word rest =>
    cases hd : decode word with
    | ok i =>
      rw [step_of_select_run (select_script hs hd)] at h
      exact .inl ⟨i, s.sends, rest, s.inbox, h, fun hnil => nomatch hnil⟩
    | error r =>
      by_cases hr : r = .otherTopic
      · subst hr
        rw [step_of_select_drop (u := s.withScript rest) (by simp [select, hs, hd])] at h
        exact .inr ⟨s.inbox, rest, (Host.Outcome.next.inj h).symm, fun hnil => nomatch hnil⟩
      · have hsel : select s = .reject r := by simp [select, hs, hd]
        rw [step, hsel] at h
        exact nomatch h

/-! ### The ranges of the codec states -/

theorem framePushAll_codecRange {s : State} (h : CodecRange s) (xs : List Sample) :
    CodecRange (framePushAll xs s) := by
  induction xs generalizing s with
  | nil => exact h
  | cons x xs ih =>
    obtain ⟨henc, hdec, hhdr⟩ := h
    refine ih ⟨framePush_legal x s, ?_, ?_⟩
    · rw [framePush_eq]
      exact hdec
    · rw [framePush_eq]
      dsimp only
      split
      · exact henc
      · exact hhdr

theorem StreamEffect.codecRange {i : Instr} {s t : State} (h : StreamEffect i s t) (hs : CodecRange s) :
    CodecRange t := by
  obtain ⟨henc, hdec, hhdr⟩ := hs
  cases h with
  | started => exact ⟨Nat.zero_le _, hdec, hhdr⟩
  | restarted => exact ⟨Nat.zero_le _, hdec, hhdr⟩
  | @frameGrown x | @frameFilled x =>
    obtain ⟨henc', _, hhdr'⟩ := framePushAll_codecRange ⟨henc, hdec, hhdr⟩ [x]
    exact ⟨henc', hdec, hhdr'⟩
  | lastFrameClosed =>
    obtain ⟨henc', _, hhdr'⟩ := framePushAll_codecRange ⟨henc, hdec, hhdr⟩
      (List.replicate (s.stx.cfg.frameSamples - s.pkt.pos) 0)
    exact ⟨henc', hdec, hhdr'⟩
  | _ => exact ⟨henc, hdec, hhdr⟩

theorem codecRange_of_eq {s t : State} (hs : CodecRange s) (henc : t.enc = s.enc) (hdec : t.dec = s.dec)
    (hhdr : t.pkt.hdrStepIndex = s.pkt.hdrStepIndex) : CodecRange t := by
  rw [CodecRange, henc, hdec, hhdr]
  exact hs

/-- The step indices of every codec state stay 0 to 88 (R34). -/
theorem Effect.codecRange {i : Instr} {s t : State} (h : Effect i s t) (hs : CodecRange s) : CodecRange t := by
  have ⟨henc, hdec, hhdr⟩ := hs
  cases h with
  | stream h => exact h.codecRange hs
  | transfer h | freeHeard h | ackHeard h =>
    obtain ⟨_, heq, deq, _, peq, _⟩ := h.frame
    exact codecRange_of_eq hs heq deq (congrArg Pkt.hdrStepIndex peq)
  | code => exact ⟨henc, codecAfter_stepIndex_le _ _, hhdr⟩
  | payloadByte hk => exact ⟨henc, codecRun_stepIndex_le _ _ hk, hhdr⟩
  | datagramDecoded _ hk => exact ⟨henc, codecRun_stepIndex_le _ _ hk, hhdr⟩
  | cancelled | eventCancelled => exact codecRange_of_eq hs rfl rfl (by dsimp only; split <;> rfl)
  | encSample => exact ⟨codecAfter_stepIndex_le _ _, hdec, hhdr⟩
  | encLoad hk => exact ⟨hk, hdec, hhdr⟩
  | decLoad hk => exact ⟨henc, hk, hhdr⟩
  | @framePush x =>
    obtain ⟨henc', _, hhdr'⟩ := framePushAll_codecRange hs [x]
    exact ⟨henc', hdec, hhdr'⟩
  | framePad =>
    obtain ⟨henc', _, hhdr'⟩ := framePushAll_codecRange hs (List.replicate (s.stx.cfg.frameSamples - s.pkt.pos) 0)
    exact ⟨henc', hdec, hhdr'⟩
  | @encFrame xs =>
    obtain ⟨henc', _, hhdr'⟩ := framePushAll_codecRange hs (frameSamplesGiven xs s)
    exact ⟨henc', hdec, hhdr'⟩
  | reset => exact rangeInv_reset.1
  | _ => exact hs

/-! ### The memories -/

theorem StreamEffect.payload_wf {i : Instr} {s t : State} (h : StreamEffect i s t)
    (hs : Mem.wf s.pkt.payload = true) : Mem.wf t.pkt.payload = true := by
  cases h with
  | frameGrown => exact framePush_payload_wf hs _
  | started | frameFilled | lastFrameClosed => rfl
  | _ => exact hs

/-- The payload buffer stays canonical. -/
theorem Effect.payload_wf {i : Instr} {s t : State} (h : Effect i s t) (hs : Mem.wf s.pkt.payload = true) :
    Mem.wf t.pkt.payload = true := by
  cases h with
  | stream h => exact h.payload_wf hs
  | transfer h | freeHeard h | ackHeard h =>
    obtain ⟨_, _, _, _, hpkt, _⟩ := h.frame
    rw [hpkt]
    exact hs
  | cancelled | eventCancelled =>
    dsimp only
    split <;> first | exact hs | rfl
  | framePush => exact framePush_payload_wf hs _
  | framePad => exact framePushAll_payload_wf _ hs
  | frameClose | encFrame | reset => rfl
  | _ => exact hs

/-- Both memories stay canonical; the file is never written (20_memory.md R44). -/
theorem Effect.memCanonical {i : Instr} {s t : State} (h : Effect i s t) (hs : MemCanonical s) : MemCanonical t := by
  obtain ⟨hfile, _⟩ := h.environment
  exact ⟨h.payload_wf hs.1, hfile ▸ hs.2⟩

/-! ### Times and numbers -/

theorem StreamEffect.timesFit {i : Instr} {s t : State} (h : StreamEffect i s t) (hs : TimesFit s) : TimesFit t := by
  obtain ⟨hnow, hstart, htarget, hdeadline⟩ := hs
  cases h with
  | started | restarted => exact ⟨hnow, hnow, hnow, hdeadline⟩
  | sent _ _ hfits => exact ⟨hnow, hstart, hfits, hdeadline⟩
  | _ => exact ⟨hnow, hstart, htarget, hdeadline⟩

theorem TransferEffect.timesFit {i : Instr} {s t : State} (h : TransferEffect i s t) (hs : TimesFit s) :
    TimesFit t := by
  obtain ⟨hnow, hstart, htarget, hdeadline⟩ := hs
  cases h with
  | requested _ hr =>
    obtain ⟨_, _, hfits, _⟩ := latchXfer_ok hr
    exact ⟨hnow, hstart, htarget, hfits⟩
  | chunkSent _ hfits => exact ⟨hnow, hstart, htarget, hfits⟩
  | _ => exact ⟨hnow, hstart, htarget, hdeadline⟩

/-- Every time stays within the time base (R274). -/
theorem Effect.timesFit {i : Instr} {s t : State} (h : Effect i s t) (hs : TimesFit s) : TimesFit t := by
  have ⟨hnow, hstart, htarget, hdeadline⟩ := hs
  cases h with
  | stream h => exact h.timesFit hs
  | transfer h | freeHeard h | ackHeard h => exact h.timesFit hs
  | cancelled | eventCapNoReply | eventCapInsufficient | eventAckTimeout | eventCancelled =>
    refine ⟨hnow, hstart, htarget, ?_⟩
    dsimp only
    split <;> exact hdeadline
  | paceAnchor => exact ⟨hnow, hnow, hnow, hdeadline⟩
  | paceMark hfits => exact ⟨hnow, hstart, hfits, hdeadline⟩
  | @tick w => exact ⟨w.isLt, hstart, htarget, hdeadline⟩
  | reset =>
    obtain ⟨_, _, ⟨_, hreset⟩, _⟩ := rangeInv_reset
    exact ⟨hnow, hreset⟩
  | _ => exact hs

theorem TransferEffect.numbersFit {i : Instr} {s t : State} (h : TransferEffect i s t) (hs : NumbersFit s) :
    NumbersFit t := by
  have ⟨hidx, htotal, hsize, hreply, hack, hacked⟩ := hs
  cases h with
  | @requested size _ r _ hr =>
    obtain ⟨hchunk, hidx0, _⟩ := latchXfer_ok hr
    obtain ⟨hcount, _⟩ := chunkCount_bounds (size := size.toNat) hchunk
    have hlt := size.isLt
    exact ⟨by dsimp only; omega, by dsimp only; omega, hlt, by simp, by simp, by simp⟩
  | replyHeard hp =>
    refine ⟨hidx, htotal, hsize, fun f r heq => ?_, hack, hacked⟩
    obtain ⟨rfl, rfl⟩ := Prod.mk.inj (Option.some.inj heq)
    exact parseFree_some hp
  | ackHeard hp =>
    refine ⟨hidx, htotal, hsize, hreply, fun a heq => ?_, hacked⟩
    obtain rfl := Option.some.inj heq
    exact parseAck_some hp
  | accepted | acceptedEmpty | insufficient => exact ⟨hidx, htotal, hsize, by simp, hack, hacked⟩
  | transferDone => exact ⟨hidx, htotal, hsize, hreply, hack, fun a heq => Option.some.inj heq ▸ hidx⟩
  | chunkAcked _ _ hfits => exact ⟨hfits, htotal, hsize, hreply, hack, fun a heq => Option.some.inj heq ▸ hidx⟩
  | _ => exact hs

theorem numbersFit_of_eq {s t : State} (hs : NumbersFit s) (hlsn : t.lsn = s.lsn) (hidx : t.xfer.idx = s.xfer.idx)
    (htotal : t.xfer.total = s.xfer.total) (hsize : t.xfer.fileSize = s.xfer.fileSize)
    (hacked : t.xfer.lastAcked = s.xfer.lastAcked) : NumbersFit t := by
  rw [NumbersFit, hlsn, hidx, htotal, hsize, hacked]
  exact hs

/-- Every size and index stays within its width (R24, R25, R27, R28). -/
theorem Effect.numbersFit {i : Instr} {s t : State} (h : Effect i s t) (hs : NumbersFit s) : NumbersFit t := by
  cases h with
  | stream h =>
    obtain ⟨_, _, _, hlsn, hxfer, _⟩ := h.frame
    exact numbersFit_of_eq hs hlsn (by rw [hxfer]) (by rw [hxfer]) (by rw [hxfer]) (by rw [hxfer])
  | transfer h | freeHeard h | ackHeard h => exact h.numbersFit hs
  | cancelled | eventCapNoReply | eventCapInsufficient | eventAckTimeout | eventCancelled =>
    refine numbersFit_of_eq hs rfl ?_ ?_ ?_ ?_ <;> dsimp only <;> split <;> rfl
  | reset =>
    obtain ⟨_, _, _, hreset⟩ := rangeInv_reset
    exact hreset
  | _ => exact hs

/-- Every operation keeps the registers in their ranges and the memories canonical. -/
theorem Effect.rangeInv {i : Instr} {s t : State} (h : Effect i s t) (hs : RangeInv s) : RangeInv t := by
  obtain ⟨hcodec, hmem, htimes, hnumbers⟩ := hs
  exact ⟨h.codecRange hcodec, h.memCanonical hmem, h.timesFit htimes, h.numbersFit hnumbers⟩

/-- Settles O50. -/
theorem stepKeepsRangesAndCanonicalMemory : Obligations.StepKeepsRangesAndCanonicalMemory := by
  intro s t hs hstep
  obtain ⟨i, sends, script, inbox, hexec, _⟩ | ⟨inbox, script, rfl, _⟩ := step_eq_next hstep
  · exact (effect_of_exec hexec).rangeInv hs
  · exact hs

/-! ### The pacer's schedule -/

/-- Just after an anchor the target is on the schedule (R151). -/
theorem pacerOnSchedule_of_anchored {s : State} {now : Nat}
    (h : s.pacer = { startTime := now, framesSent := 0, targetTime := now }) : PacerOnSchedule s := by
  intro _
  simp [h]

theorem pacerOnSchedule_of_eq {s t : State} (hs : PacerOnSchedule s) (hpacer : t.pacer = s.pacer)
    (hcfg : t.stx.cfg = s.stx.cfg) : PacerOnSchedule t := by
  rw [PacerOnSchedule, hpacer, hcfg]
  exact hs

theorem StreamEffect.pacerOnSchedule {i : Instr} {s t : State} (h : StreamEffect i s t) (hs : PacerOnSchedule s) :
    PacerOnSchedule t := by
  cases h with
  | started | restarted => exact pacerOnSchedule_of_anchored rfl
  | sent => exact fun hden => markTarget_of_den hden
  | _ => exact hs

/-- Every operation keeps the target on the schedule of the anchor and the count (R21). -/
theorem Effect.pacerOnSchedule {i : Instr} {s t : State} (h : Effect i s t) (hs : PacerOnSchedule s) :
    PacerOnSchedule t := by
  cases h with
  | stream h => exact h.pacerOnSchedule hs
  | transfer h | freeHeard h | ackHeard h =>
    obtain ⟨_, _, _, _, _, hpacer, hstx, _⟩ := h.frame
    exact pacerOnSchedule_of_eq hs hpacer (congrArg Stx.cfg hstx)
  | cancelled | eventCancelled => exact pacerOnSchedule_of_eq hs rfl (by dsimp only; split <;> rfl)
  | paceAnchor => exact pacerOnSchedule_of_anchored rfl
  | paceMark => exact fun hden => markTarget_of_den hden
  | reset => exact fun hden => absurd rfl hden
  | _ => exact hs

/-- Settles O51. -/
theorem stepKeepsThePacerOnSchedule : Obligations.StepKeepsThePacerOnSchedule := by
  intro s t hs hstep
  obtain ⟨i, sends, script, inbox, hexec, _⟩ | ⟨inbox, script, rfl, _⟩ := step_eq_next hstep
  · exact (effect_of_exec hexec).pacerOnSchedule hs
  · exact hs

end Sys2Proof.Machine

/-! ## Proofs: the sessions of the hardware (10_state.md R34) -/

namespace Sys2Proof.Machine

/-! ### What a step of the hardware does -/

/-- What the operations that are steps do: those of the two sides, a datagram received, and the few that touch neither
side or both. -/
inductive StepEffect : Instr → State → State → Prop
  | stream {i : Instr} {s t : State} (h : StreamEffect i s t) : StepEffect i s t
  | transfer {i : Instr} {s t : State} (h : TransferEffect i s t) : StepEffect i s t
  | datagram {b : List Byte} {s : State} {dec : Codec} {rejects : Nat} {o : Output}
      (ho : isRequest o = false ∧ dataBody o = none) :
      StepEffect (.pktDecode b) s { s with dec := dec, decRejects := rejects, outputs := o :: s.outputs }
  | reserved {s : State} : StepEffect .cmdReserved s s
  | cancelled {s : State} : StepEffect .cancel s (cancelled s)
  | tick {w : TimeWord} {s : State} : StepEffect (.tick w) s { s with now := w.toNat }
  | cfgWrite {name : CfgName} {v : Nat} {s : State} :
      StepEffect (.cfgWrite name v) s { s with cfg := writeCfg name v s.cfg }
  | reset {s : State} : StepEffect .reset s (resetBlock s)

theorem isStep_of_decoderCode {i : Instr} {c : Code} (h : decoderCode i = some c) : i.isStep = false := by
  cases i <;> first | rfl | simp [decoderCode] at h

theorem isStep_of_emittedMessage {i : Instr} {o : Output} (h : emittedMessage i = some o) : i.isStep = false := by
  cases i <;> first | rfl | simp [emittedMessage] at h

theorem eq_pktDecode_of_isStep {i : Instr} {b : List Byte} (h : datagramOf i = some b) (hi : i.isStep = true) :
    i = .pktDecode b := by
  cases i with
  | pktDecode b' => rw [Option.some.inj h]
  | packet => exact absurd hi Bool.false_ne_true
  | _ => simp [datagramOf] at h

theorem stepEffect_of_exec {i : Instr} {s t : State} (hi : i.isStep = true) (h : exec i s = .next t) :
    StepEffect i s t := by
  cases effect_of_exec h with
  | stream h => exact .stream h
  | transfer h => exact .transfer h
  | code hc => exact absurd ((isStep_of_decoderCode hc).symm.trans hi) Bool.false_ne_true
  | emitted ho => exact absurd ((isStep_of_emittedMessage ho).symm.trans hi) Bool.false_ne_true
  | datagramRejected hb =>
    rw [eq_pktDecode_of_isStep hb hi]
    exact .datagram ⟨rfl, rfl⟩
  | datagramDecoded hb =>
    rw [eq_pktDecode_of_isStep hb hi]
    exact .datagram ⟨rfl, rfl⟩
  | reserved => exact .reserved
  | cancelled => exact .cancelled
  | tick => exact .tick
  | cfgWrite => exact .cfgWrite
  | reset => exact .reset
  | _ => exact absurd hi Bool.false_ne_true

/-! ### The streaming half -/

theorem streamInv_of_eq {s t : State} (hs : StreamInv s) (hstx : t.stx = s.stx) (hpkt : t.pkt = s.pkt) :
    StreamInv t := by
  rw [StreamInv, hstx, hpkt]
  exact hs

theorem nibbleAt_nil (k : Nat) : nibbleAt [] k = 0 := by
  rw [nibbleAt, Mem.read_nil]
  simp [getNibble]

/-- Between frames the streaming half asks for a legal record, a clear buffer, a packet exactly in `READY`, and
`eof` there only. -/
theorem streamInv_of_empty {s : State}
    (hcfg : s.stx.state ≠ .idle → 0 < s.stx.cfg.frameSamples ∧ 0 < s.stx.cfg.paceDen) (hpos : s.pkt.pos = 0)
    (hout : s.pkt.out.isSome = true ↔ s.stx.state = .ready) (heof : s.stx.eof = true → s.stx.state = .ready)
    (hclear : ∀ k, nibbleAt s.pkt.payload k = 0) : StreamInv s := by
  refine ⟨fun h => ?_, fun h => ?_, hout, fun _ => hpos, heof, fun k _ => hclear k⟩
  · obtain ⟨hframe, hden⟩ := hcfg h
    exact ⟨hframe, hden, by omega⟩
  · obtain ⟨hframe, _⟩ := hcfg (by simp [h])
    omega

/-- Every step of the streaming side keeps the streaming half of R34. -/
theorem StreamEffect.streamInv {i : Instr} {s t : State} (h : StreamEffect i s t)
    (hwf : Mem.wf s.pkt.payload = true) (hs : StreamInv s) : StreamInv t := by
  have ⟨hcfg, hroom, hout, hempty, heof, hclear⟩ := hs
  have hrecord (hne : s.stx.state ≠ .idle) : 0 < s.stx.cfg.frameSamples ∧ 0 < s.stx.cfg.paceDen :=
    (hcfg hne).imp_right And.left
  cases h with
  | startIgnored | overrunIgnored | overrun => exact hs
  | started _ hr =>
    obtain ⟨hframe, hden, _⟩ := latchStream_ok hr
    exact streamInv_of_empty (fun _ => ⟨hframe, hden⟩) rfl (by simp) (by simp) nibbleAt_nil
  | @frameGrown x p _ hready hfree _ _ hshort =>
    obtain ⟨hfilling, hnoeof⟩ := (sampleReady_iff s).1 hready
    obtain ⟨hframe, hden⟩ := hrecord (by simp [hfilling])
    obtain ⟨_, hsame⟩ := framePushAll_seq [x] s
    have hpos := framePush_pos x s
    refine ⟨fun _ => ⟨hframe, hden, ?_⟩, fun _ => ?_, ?_, fun hne => absurd hfilling hne, heof, fun k hk => ?_⟩
    · dsimp only
      omega
    · dsimp only
      omega
    · exact (congrArg (fun o => Option.isSome o = true) hsame).to_iff.trans hout
    · dsimp only at hk
      have hnibble := framePush_nibbleAt hwf x k
      rw [if_neg (by omega)] at hnibble
      exact hnibble.trans (hclear k (by omega))
  | frameFilled hready =>
    obtain ⟨hfilling, _⟩ := (sampleReady_iff s).1 hready
    exact streamInv_of_empty (fun _ => hrecord (by simp [hfilling])) rfl (by simp [frameClose_eq]) (fun _ => rfl)
      nibbleAt_nil
  | lastFrameClosed hready =>
    obtain ⟨hfilling, _⟩ := (sampleReady_iff s).1 hready
    exact streamInv_of_empty (fun _ => hrecord (by simp [hfilling])) rfl (by simp [frameClose_eq]) (fun _ => rfl)
      nibbleAt_nil
  | passEnded hready _ hpos =>
    obtain ⟨hfilling, hnoeof⟩ := (sampleReady_iff s).1 hready
    have hnoout : s.pkt.out.isSome = false := by simpa [hfilling] using hout
    refine streamInv_of_empty (fun _ => hrecord (by simp [hfilling])) hpos ?_ (fun he => ?_)
      fun k => hclear k (hpos ▸ Nat.zero_le k)
    · cases s.stx.loop <;> simp [hnoout]
    · exact absurd (hnoeof.symm.trans he) Bool.false_ne_true
  | restarted henabled =>
    obtain ⟨hwait, _⟩ := (loopRestartEnabled_iff s).1 henabled
    have hpos := hempty (by simp [hwait])
    have hnoout : s.pkt.out.isSome = false := by simpa [hwait] using hout
    refine streamInv_of_empty (fun _ => hrecord (by simp [hwait])) hpos (by simp [hnoout]) (fun he => ?_)
      fun k => hclear k (hpos ▸ Nat.zero_le k)
    have := heof he
    simp [hwait] at this
  | sent henabled =>
    obtain ⟨hready, _⟩ := (sendFrameEnabled_iff s).1 henabled
    have hpos := hempty (by simp [hready])
    refine streamInv_of_empty (fun _ => hrecord (by simp [hready])) hpos ?_ (by simp)
      fun k => hclear k (hpos ▸ Nat.zero_le k)
    cases s.stx.eof <;> cases s.stx.loop <;> simp

theorem cancelled_streamInv {s : State} (hs : StreamInv s) : StreamInv (cancelled s) := by
  by_cases hidle : s.stx.state = .idle
  · exact streamInv_of_eq hs (if_pos hidle) (if_pos hidle)
  · refine streamInv_of_idle ?_ ?_ ?_ ?_ ?_ <;> simp [cancelled, hidle]

/-! ### The transfer half -/

theorem transferInv_of_eq {s t : State} (hs : TransferInv s) (hxfer : t.xfer = s.xfer) : TransferInv t := by
  rw [TransferInv, hxfer]
  exact hs

/-- Every step of the transfer side keeps the transfer half of R34. -/
theorem TransferEffect.transferInv {i : Instr} {s t : State} (h : TransferEffect i s t) (hs : TransferInv s) :
    TransferInv t := by
  have ⟨hrecord, hfirst, hrange⟩ := hs
  cases h with
  | startIgnored | replyHeard | replyMalformed | ackHeard | ackMalformed => exact hs
  | acceptedEmpty | insufficient | replyTimedOut | transferDone | ackTimedOut => exact transferInv_of_inactive rfl
  | @requested size _ r _ hr =>
    obtain ⟨hchunk, hidx0, _, hover, _⟩ := latchXfer_ok hr
    obtain ⟨hcount, _⟩ := chunkCount_bounds (size := size.toNat) hchunk
    have hlt := size.isLt
    exact ⟨fun _ => ⟨hchunk, hidx0, rfl, by dsimp only; omega⟩, fun _ => rfl, by simp⟩
  | accepted hneg _ _ htotal =>
    have hidx := hfirst hneg
    refine ⟨fun _ => hrecord ((xferActive_iff _).2 (.inl hneg)), by simp, fun _ => ?_⟩
    dsimp only
    omega
  | chunkSent hsend =>
    exact ⟨fun _ => hrecord ((xferActive_iff _).2 (.inr (.inl hsend))), by simp, fun _ => hrange (.inl hsend)⟩
  | chunkAcked henabled hmore =>
    obtain ⟨hawait, _⟩ := (ackMatchEnabled_iff s).1 henabled
    have hidx := hrange (.inr hawait)
    refine ⟨fun _ => hrecord ((xferActive_iff _).2 (.inr (.inr hawait))), by simp, fun _ => ?_⟩
    dsimp only
    omega

theorem cancelled_transferInv {s : State} (hs : TransferInv s) : TransferInv (cancelled s) := by
  by_cases hactive : xferActive s.xfer.state = true
  · exact transferInv_of_inactive (by simp only [cancelled, hactive, if_true]; rfl)
  · exact transferInv_of_eq hs (if_neg hactive)

/-! ### The whole invariant -/

/-- Every operation that is a step keeps the sessions' invariants. -/
theorem sessionInv_of_exec {i : Instr} {s t : State} (hi : i.isStep = true) (h : exec i s = .next t)
    (hs : SessionInv s) : SessionInv t := by
  obtain ⟨hscript, hcodec, hmem, hstream, htransfer⟩ := hs
  have heffect := effect_of_exec h
  obtain ⟨_, _, _, _, hsame, _⟩ := heffect.environment
  refine ⟨hsame.trans hscript, heffect.codecRange hcodec, heffect.memCanonical hmem, ?_⟩
  cases stepEffect_of_exec hi h with
  | stream h =>
    obtain ⟨_, _, _, _, hxfer, _⟩ := h.frame
    exact ⟨h.streamInv hmem.1 hstream, transferInv_of_eq htransfer hxfer⟩
  | transfer h =>
    obtain ⟨_, _, _, _, hpkt, _, hstx, _⟩ := h.frame
    exact ⟨streamInv_of_eq hstream hstx hpkt, h.transferInv htransfer⟩
  | cancelled => exact ⟨cancelled_streamInv hstream, cancelled_transferInv htransfer⟩
  | reset => exact ⟨streamInv_of_idle rfl rfl rfl rfl rfl, transferInv_of_inactive rfl⟩
  | datagram | reserved | tick | cfgWrite => exact ⟨hstream, htransfer⟩

/-- Settles O52. -/
theorem hardwareStepKeepsTheSessions : Obligations.HardwareStepKeepsTheSessions := by
  intro s t ⟨hscript, hs⟩ hstep
  obtain ⟨i, sends, script, inbox, hexec, hhard⟩ | ⟨inbox, script, rfl, hhard⟩ := step_eq_next hstep
  · obtain ⟨hi, hempty⟩ := hhard hscript
    exact sessionInv_of_exec hi hexec ⟨hempty, hs⟩
  · exact ⟨hhard hscript, hs⟩

end Sys2Proof.Machine

/-! ## Proofs: what the hardware may refuse (00_scope.md R12, 93_implementation_defined.md U17, U18, U19) -/

namespace Sys2Proof.Machine

/-- An answer with a next state, or a refusal by a rule. -/
def AnsweredByRule (a : Answer) : Prop :=
  (∃ t, a = .next t) ∨ ∃ r, a = .refused r ∧ refusedByRule r = true

theorem answeredByRule_next (t : State) : AnsweredByRule (.next t) := .inl ⟨t, rfl⟩

theorem answeredByRule_refused {r : Refusal} (h : refusedByRule r = true) : AnsweredByRule (.refused r) :=
  .inr ⟨r, rfl, h⟩

theorem answeredByRule_ite {p : Prop} [Decidable p] {a b : Answer} (ha : AnsweredByRule a) (hb : AnsweredByRule b) :
    AnsweredByRule (if p then a else b) := by
  split
  · exact ha
  · exact hb

/-! ### The starts -/

theorem refusedByRule_of_latchStream {c : CfgRegs} {r : Refusal} (h : latchStream c = .error r) :
    refusedByRule r = true := by
  unfold latchStream at h
  split at h
  · split at h
    · exact Except.error.inj h ▸ rfl
    · simp at h
  · exact Except.error.inj h ▸ rfl

theorem refusedByRule_of_latchXfer {now size : Nat} {c : CfgRegs} {r : Refusal} (h : latchXfer now size c = .error r) :
    refusedByRule r = true := by
  unfold latchXfer at h
  split at h
  · split_ifs at h <;> exact Except.error.inj h ▸ rfl
  · exact Except.error.inj h ▸ rfl

theorem streamStart_answered (mode : Mode) (loop : Bool) (s : State) :
    AnsweredByRule (exec (.streamStart mode loop) s) := by
  by_cases hidle : s.stx.state = .idle
  · cases hr : latchStream s.cfg with
    | ok r =>
      rw [streamStart_of_latched hidle hr]
      exact answeredByRule_next _
    | error r =>
      rw [streamStart_of_not_latched hidle hr]
      exact answeredByRule_refused (refusedByRule_of_latchStream hr)
  · rw [streamStart_of_running hidle]
    exact answeredByRule_next _

theorem xferStart_answered (size : SizeWord) (s : State) : AnsweredByRule (exec (.xferStart size) s) := by
  cases hactive : xferActive s.xfer.state with
  | false =>
    cases hr : latchXfer s.now size.toNat s.cfg with
    | ok r =>
      rw [xferStart_of_latched hactive hr]
      exact answeredByRule_next _
    | error r =>
      rw [xferStart_of_not_latched hactive hr]
      exact answeredByRule_refused (refusedByRule_of_latchXfer hr)
  | true =>
    rw [xferStart_of_active hactive]
    exact answeredByRule_next _

/-! ### The arrivals -/

/-- A ready port takes a sample unless the source does not replay its pass (U19). -/
theorem pcmIn_answered {s : State} (hs : SessionInv s) (hready : sampleReady s = true) (x : Sample) :
    AnsweredByRule (exec (.pcmIn x) s) := by
  obtain ⟨_, ⟨hindex, _⟩, _, ⟨_, hroom, _⟩, _⟩ := hs
  obtain ⟨hfilling, _⟩ := (sampleReady_iff s).1 hready
  by_cases hp : ∃ p, Supplies s.stx.mode x s.playback p
  · obtain ⟨p, hp⟩ := hp
    rw [exec_pcmIn_of_supplied hready (hroom hfilling) hindex hp]
    exact answeredByRule_next _
  · rw [exec_pcmIn_of_not_supplied hready (hroom hfilling) hindex hp]
    exact answeredByRule_refused rfl

theorem exec_pcmEof_of_not_replayed {s : State} (hready : sampleReady s = true)
    (hend : ¬MayEnd s.stx.mode s.playback) : exec .pcmEof s = .refused .sourceNotReplayed := by
  show execPcmEof s = _
  simp [execPcmEof, hready, mt passMayEnd_iff.1 hend]

/-- A ready port takes an end mark unless the source does not replay its pass (U19). -/
theorem pcmEof_answered {s : State} (hs : SessionInv s) (hready : sampleReady s = true) :
    AnsweredByRule (exec .pcmEof s) := by
  obtain ⟨_, ⟨hindex, _⟩, _, ⟨_, hroom, _⟩, _⟩ := hs
  obtain ⟨hfilling, _⟩ := (sampleReady_iff s).1 hready
  by_cases hend : MayEnd s.stx.mode s.playback
  · refine .inl ?_
    rcases Nat.eq_zero_or_pos s.pkt.pos with hpos | hpos
    · exact ⟨_, exec_pcmEof_eq_next.2 ⟨hready, hend, .inl ⟨hpos, rfl⟩⟩⟩
    · exact ⟨_, exec_pcmEof_eq_next.2 ⟨hready, hend, .inr ⟨hpos, hroom hfilling, hindex, rfl⟩⟩⟩
  · rw [exec_pcmEof_of_not_replayed hready hend]
    exact answeredByRule_refused rfl

theorem pktDecode_answered (b : List Byte) (s : State) : AnsweredByRule (exec (.pktDecode b) s) := by
  by_cases hnone : s.cfg.sampleRate = none ∨ s.cfg.frameMs = none
  · rw [exec_pktDecode_of_unwritten hnone]
    exact answeredByRule_refused rfl
  · obtain ⟨hrate, hms⟩ := not_or.1 hnone
    obtain ⟨rate, hrate⟩ := Option.ne_none_iff_exists'.1 hrate
    obtain ⟨ms, hms⟩ := Option.ne_none_iff_exists'.1 hms
    rw [exec_pktDecode_of_written hrate hms]
    exact answeredByRule_ite (answeredByRule_refused rfl) (answeredByRule_next _)

theorem pcmOverrun_answered (s : State) : AnsweredByRule (exec .pcmOverrun s) := by
  by_cases hidle : s.stx.state = .idle
  · rw [exec_pcmOverrun_of_idle hidle]
    exact answeredByRule_next _
  · rw [exec_pcmOverrun_of_streaming hidle]
    exact answeredByRule_next _

/-- Every arrival that the hardware takes is answered. -/
theorem arrival_answered {s : State} (hs : SessionInv s) {a : Arrival} {i : Instr} (hi : arrivalInstr a = some i)
    (hready : needsSamplePort a = true → sampleReady s = true) : AnsweredByRule (exec i s) := by
  cases a with
  | cmd code arg =>
    rw [← Option.some.inj hi, commandInstr]
    split_ifs
    · exact answeredByRule_next _
    · exact streamStart_answered _ _ s
    · exact streamStart_answered _ _ s
    · exact xferStart_answered arg s
    · exact answeredByRule_next _
  | msg topic =>
    cases topic with
    | resp | ack => exact Option.some.inj hi ▸ answeredByRule_next _
    | req | data | other => exact nomatch hi
  | pcm x => exact Option.some.inj hi ▸ pcmIn_answered hs (hready rfl) x
  | pcmEof => exact Option.some.inj hi ▸ pcmEof_answered hs (hready rfl)
  | pcmOverrun => exact Option.some.inj hi ▸ pcmOverrun_answered s
  | dgram b => exact Option.some.inj hi ▸ pktDecode_answered b s
  | tick w =>
    exact Option.some.inj hi ▸ answeredByRule_ite (answeredByRule_next (s.withNow w.toNat)) (answeredByRule_refused rfl)
  | resetIn | cfg => exact Option.some.inj hi ▸ answeredByRule_next _

/-! ### The internal steps -/

/-- The awaited chunk lies in the file, so its send is refused for its deadline only (R203, R274). -/
theorem xferSendChunk_answered {s : State} (hs : SessionInv s) (henabled : sendChunkEnabled s = true) :
    AnsweredByRule (exec .xferSendChunk s) := by
  obtain ⟨_, _, _, _, hrecord, _, hrange⟩ := hs
  have hsend : s.xfer.state = .sendingChunk := of_decide_eq_true henabled
  obtain ⟨hchunk, _, htotal, _⟩ := hrecord ((xferActive_iff _).2 (.inr (.inl hsend)))
  obtain ⟨hfirst, hlast⟩ := hrange (.inl hsend)
  obtain ⟨_, _, hinside⟩ := chunkCount_bounds (size := s.xfer.fileSize) hchunk
  have hoffset := hinside (s.xfer.idx - s.xfer.cfg.idx0) (by omega)
  by_cases hfits : s.now + s.xfer.cfg.ackTimeout < 2 ^ 64
  · exact .inl ⟨_, exec_xferSendChunk_eq_next.2
      ⟨hsend, hfits, (chunkInFile_iff s).2 ⟨hfirst, Nat.le_of_lt hoffset⟩, rfl⟩⟩
  · have hnot : fitsTime (s.now + s.xfer.cfg.ackTimeout) = false := Bool.eq_false_iff.2 (mt (fitsTime_iff _).1 hfits)
    show AnsweredByRule (execXferSendChunk s)
    rw [execXferSendChunk, henabled, hnot]
    exact answeredByRule_refused rfl

/-- An internal step of the transfer side is answered. -/
theorem transferStep_answered {s : State} (hs : SessionInv s) {i : Instr} (h : transferStep s = some i) :
    AnsweredByRule (exec i s) := by
  obtain ⟨rfl, henabled⟩ | ⟨rfl, henabled⟩ | ⟨rfl, henabled⟩ | ⟨rfl, henabled⟩ | ⟨rfl, henabled⟩ := transferStep_some h
  · rw [exec_xferAckMatch_of_enabled henabled]
    exact answeredByRule_ite (answeredByRule_next _)
      (answeredByRule_ite (answeredByRule_refused rfl) (answeredByRule_next _))
  · exact .inl ⟨_, exec_xferAckTimeout_eq_next.2 ⟨henabled, rfl⟩⟩
  · obtain ⟨hneg, f, g, hreply⟩ := (capDecideEnabled_iff s).1 henabled
    rw [exec_capDecide_of_reply hneg hreply]
    exact answeredByRule_next _
  · exact .inl ⟨_, exec_capTimeout_eq_next.2 ⟨henabled, rfl⟩⟩
  · exact xferSendChunk_answered hs henabled

/-- A packet waits in `READY`, so its send is refused for the next target only (R171, R274). -/
theorem sendFrame_answered {s : State} (hs : SessionInv s) (henabled : sendFrameEnabled s = true) (r : SendResult) :
    AnsweredByRule (exec (.sendFrame r) s) := by
  obtain ⟨_, _, _, ⟨_, _, hout, _⟩, _⟩ := hs
  obtain ⟨hready, _⟩ := (sendFrameEnabled_iff s).1 henabled
  obtain ⟨b, hb⟩ := Option.isSome_iff_exists.1 (hout.2 hready)
  rw [exec_sendFrame_of_enabled henabled hb]
  exact answeredByRule_ite (answeredByRule_next _) (answeredByRule_refused rfl)

/-- An internal step of the streaming side is answered. -/
theorem streamStep_answered {s u : State} (hs : SessionInv s) {i : Instr} (h : streamStep s = some (i, u)) :
    AnsweredByRule (exec i u) := by
  obtain ⟨rfl, rfl, henabled⟩ | ⟨rfl, rfl, henabled⟩ := streamStep_some h
  · exact sendFrame_answered (s := s.withSends (s.sends + 1)) hs henabled _
  · exact .inl ⟨_, exec_loopRestart_eq_next.2 ⟨henabled, rfl⟩⟩

/-- Settles O53. -/
theorem hardwareStepsOnlyRefuseByRule : Obligations.HardwareStepsOnlyRefuseByRule := by
  intro s hs
  show AnsweredByRule (step s)
  have ⟨hscript, _⟩ := hs
  have hchoice := hardwareChoice hscript
  generalize hsel : select s = sel at hchoice
  cases hchoice with
  | @arrival a i inbox hi hready =>
    rw [step_of_select_run hsel]
    exact arrival_answered (s := { s with inbox := inbox }) hs hi hready
  | dropped =>
    rw [step_of_select_drop hsel]
    exact answeredByRule_next _
  | transferStep hi =>
    rw [step_of_select_run hsel]
    exact transferStep_answered hs hi
  | streamStep hi =>
    rw [step_of_select_run hsel]
    exact streamStep_answered hs hi
  | waits =>
    rw [step_of_select_wait hsel]
    exact answeredByRule_next _

end Sys2Proof.Machine

/-! ## Proofs: the traffic of a transfer session (45_transfer.md R214) -/

namespace Sys2Proof.Machine

/-! ### The bodies sent on `T_DATA` -/

/-- An output that is neither a request nor on `T_DATA` leaves the session's traffic as it is. -/
def Silent (o : Output) : Prop := isRequest o = false ∧ dataBody o = none

theorem sessionBodies_of_silent {s t : State} {new : List Output} (hout : t.outputs = new ++ s.outputs)
    (hnew : ∀ o ∈ new, Silent o) : sessionBodies t = sessionBodies s := by
  have htake : new.takeWhile (fun o => !isRequest o) = new :=
    List.takeWhile_eq_self_iff.2 fun o ho => by simp [(hnew o ho).1]
  have hbodies : new.filterMap dataBody = [] := List.filterMap_eq_nil_iff.2 fun o ho => (hnew o ho).2
  rw [sessionBodies, hout, List.takeWhile_append, htake, if_pos rfl, List.filterMap_append, hbodies,
    List.nil_append, sessionBodies]

theorem sessionBodies_of_data {s t : State} {b : List Byte} (hout : t.outputs = .msg .data b :: s.outputs) :
    sessionBodies t = sessionBodies s ++ [b] := by
  simp [sessionBodies, hout, isRequest, dataBody]

theorem sessionBodies_of_request {s t : State} {b : List Byte} (hout : t.outputs = .msg .req b :: s.outputs) :
    sessionBodies t = [] := by
  simp [sessionBodies, hout, isRequest]

theorem chunkBodies_of_eq {s t : State} (hfile : t.file = s.file) (hcfg : t.xfer.cfg = s.xfer.cfg)
    (htotal : t.xfer.total = s.xfer.total) (hsize : t.xfer.fileSize = s.xfer.fileSize) (k : Nat) :
    chunkBodies t k = chunkBodies s k := by
  simp only [chunkBodies, chunkData, hfile, hcfg, htotal, hsize]

theorem chunkBodies_succ (s : State) (k : Nat) :
    chunkBodies s (k + 1) =
      chunkBodies s k ++ [chunkBody (s.xfer.cfg.idx0 + k) s.xfer.total (chunkData s k)] := by
  simp [chunkBodies, List.range_succ]

/-- What changes neither the transfer unit nor the file and sends nothing of a session keeps its traffic. -/
theorem trafficInv_of_silent {s t : State} (hs : TrafficInv s) (hxfer : t.xfer = s.xfer) (hfile : t.file = s.file)
    {new : List Output} (hout : t.outputs = new ++ s.outputs) (hnew : ∀ o ∈ new, Silent o) : TrafficInv t := by
  have hchunks (k : Nat) : chunkBodies t k = chunkBodies s k :=
    chunkBodies_of_eq hfile (by rw [hxfer]) (by rw [hxfer]) (by rw [hxfer]) k
  simp only [TrafficInv, hxfer, sessionBodies_of_silent hout hnew, hchunks]
  exact hs

/-- The steps of the streaming side send nothing of a transfer session. -/
theorem StreamEffect.silent {i : Instr} {s t : State} (h : StreamEffect i s t) :
    ∃ new, t.outputs = new ++ s.outputs ∧ ∀ o ∈ new, Silent o := by
  cases h with
  | restarted => exact ⟨[.pcmRewind], rfl, by simp [Silent, isRequest, dataBody]⟩
  | @sent r b =>
    refine ⟨(if r = .fail then [.event 1 (s.pkt.seq - 1)] else []) ++ [.dgram s.stx.cfg.destAddr s.stx.cfg.destPort b],
      (List.append_assoc _ [_] _).symm, ?_⟩
    cases r <;> simp [Silent, isRequest, dataBody]
  | overrun => exact ⟨[.event 2 0], rfl, by simp [Silent, isRequest, dataBody]⟩
  | startIgnored | started | frameGrown | frameFilled | passEnded | lastFrameClosed | overrunIgnored =>
    exact ⟨[], rfl, by simp⟩

/-- `CANCEL` sends nothing of a transfer session. -/
theorem cancelReports_silent (s : State) : ∀ o ∈ cancelReports s, Silent o := by
  unfold cancelReports
  split <;> split <;> simp [Silent, isRequest, dataBody]

/-! ### The transfer side -/

/-- Every step of the transfer side keeps the session's traffic (R214 (a), (c), (d), (e)). -/
theorem TransferEffect.trafficInv {i : Instr} {s t : State} (h : TransferEffect i s t) (hinv : TransferInv s)
    (hs : TrafficInv s) : TrafficInv t := by
  obtain ⟨_, hfirst, hrange⟩ := hinv
  have hevent (code : BitVec 4) (info : SizeWord) (u : State) (hout : u.outputs = .event code info :: s.outputs) :
      sessionBodies u = sessionBodies s :=
    sessionBodies_of_silent (new := [_]) hout (by simp [Silent, isRequest, dataBody])
  cases h with
  | startIgnored | replyHeard | ackHeard => exact hs
  | replyMalformed | ackMalformed =>
    exact trafficInv_of_silent hs rfl rfl (new := [_]) rfl (by simp [Silent, isRequest, dataBody])
  | requested => exact sessionBodies_of_request rfl
  | accepted hneg =>
    have hidx := hfirst hneg
    simp only [TrafficInv, hneg] at hs
    simp only [TrafficInv]
    rw [sessionBodies_of_data rfl, hs, hidx, Nat.sub_self]
    rfl
  | acceptedEmpty hneg _ _ htotal =>
    simp only [TrafficInv, hneg] at hs
    simp only [TrafficInv]
    rw [sessionBodies_of_data (s := { s with outputs := .msg .data (startBody s.xfer.fileSize) :: s.outputs }) rfl,
      sessionBodies_of_data rfl, hs, htotal]
    rfl
  | insufficient hneg =>
    simp only [TrafficInv, hneg] at hs
    exact (hevent _ _ _ rfl).trans hs
  | replyTimedOut henabled =>
    obtain ⟨hneg, _⟩ := (capTimeoutEnabled_iff s).1 henabled
    simp only [TrafficInv, hneg] at hs
    exact (hevent _ _ _ rfl).trans hs
  | chunkSent hsend =>
    obtain ⟨hle, _⟩ := hrange (.inl hsend)
    simp only [TrafficInv, hsend] at hs
    simp only [TrafficInv]
    rw [sessionBodies_of_data rfl, hs, chunkBodies_succ]
    dsimp only
    rw [Nat.add_sub_cancel' hle]
    rfl
  | transferDone henabled hlast =>
    obtain ⟨hawait, _⟩ := (ackMatchEnabled_iff s).1 henabled
    obtain ⟨hle, _⟩ := hrange (.inr hawait)
    have htotal : s.xfer.total = s.xfer.idx - s.xfer.cfg.idx0 + 1 := by omega
    simp only [TrafficInv, hawait, ← htotal] at hs
    simp only [TrafficInv]
    rw [sessionBodies_of_data rfl, hs]
    rfl
  | chunkAcked henabled =>
    obtain ⟨hawait, _⟩ := (ackMatchEnabled_iff s).1 henabled
    obtain ⟨hle, _⟩ := hrange (.inr hawait)
    simp only [TrafficInv, hawait] at hs
    simp only [TrafficInv]
    rw [Nat.sub_add_comm hle]
    exact hs
  | ackTimedOut henabled =>
    obtain ⟨hawait, _⟩ := (ackTimeoutEnabled_iff s).1 henabled
    simp only [TrafficInv, hawait] at hs
    exact (hevent _ _ _ rfl).trans hs

/-- A cancelled session has sent nothing, or `START` and some of its chunks (R214 (e)). -/
theorem cancelled_trafficInv {s : State} (hinv : TransferInv s) (hs : TrafficInv s) : TrafficInv (cancelled s) := by
  obtain ⟨_, _, hrange⟩ := hinv
  have hbodies : sessionBodies (cancelled s) = sessionBodies s := sessionBodies_of_silent rfl (cancelReports_silent s)
  by_cases hactive : xferActive s.xfer.state = true
  · have hxfer : (cancelled s).xfer = { s.xfer with state := .abortedCancelled } := if_pos hactive
    have hchunks (k : Nat) : chunkBodies (cancelled s) k = chunkBodies s k :=
      chunkBodies_of_eq (s := s) (t := cancelled s) rfl (by rw [hxfer]) (by rw [hxfer]) (by rw [hxfer]) k
    simp only [TrafficInv, hxfer, hbodies, hchunks]
    obtain hneg | hsend | hawait := (xferActive_iff _).1 hactive
    · simp only [TrafficInv, hneg] at hs
      exact .inl hs
    · have hidx := hrange (.inl hsend)
      simp only [TrafficInv, hsend] at hs
      exact .inr ⟨_, by omega, hs⟩
    · have hidx := hrange (.inr hawait)
      simp only [TrafficInv, hawait] at hs
      exact .inr ⟨_, by omega, hs⟩
  · exact trafficInv_of_silent hs (if_neg hactive) rfl rfl (cancelReports_silent s)

/-- Every operation that is a step keeps the session's traffic. -/
theorem StepEffect.trafficInv {i : Instr} {s t : State} (h : StepEffect i s t) (hinv : TransferInv s)
    (hs : TrafficInv s) : TrafficInv t := by
  cases h with
  | stream h =>
    obtain ⟨_, _, _, _, hxfer, _, hfile, _⟩ := h.frame
    obtain ⟨new, hout, hnew⟩ := h.silent
    exact trafficInv_of_silent hs hxfer hfile hout hnew
  | transfer h => exact h.trafficInv hinv hs
  | datagram ho => exact trafficInv_of_silent hs rfl rfl (new := [_]) rfl (List.forall_mem_singleton.2 ho)
  | cancelled => exact cancelled_trafficInv hinv hs
  | reset => trivial
  | reserved | tick | cfgWrite => exact hs

/-- Settles O54. -/
theorem hardwareStepKeepsTheTraffic : Obligations.HardwareStepKeepsTheTraffic := by
  intro s t ⟨hscript, _, _, _, hinv⟩ hs hstep
  obtain ⟨i, sends, script, inbox, hexec, hhard⟩ | ⟨inbox, script, rfl, _⟩ := step_eq_next hstep
  · obtain ⟨hi, _⟩ := hhard hscript
    exact (stepEffect_of_exec hi hexec).trafficInv hinv hs
  · exact hs

end Sys2Proof.Machine

/-! ## Proofs: the transition tables (43_transport.md R175, 45_transfer.md R213) -/

namespace Sys2Proof.Machine

/-! ### The streaming side -/

/-- Where the transport goes at the end of a pass (R169, R171). -/
theorem endOfPass_eq (loop : Bool) :
    (loop = true ∧ (if loop then StxState.loopWait else .idle) = .loopWait) ∨
      (loop = false ∧ (if loop then StxState.loopWait else .idle) = .idle) := by
  cases loop <;> simp

theorem StreamEffect.edge {i : Instr} {s t : State} (h : StreamEffect i s t) :
    t.stx.state = s.stx.state ∨ StreamEdge i s t := by
  cases h with
  | startIgnored | frameGrown | overrunIgnored | overrun => exact .inl rfl
  | started hidle hr => exact .inr ⟨hidle, latchStream_legal hr, rfl, rfl⟩
  | frameFilled hready _ _ hfull =>
    obtain ⟨hfilling, _⟩ := (sampleReady_iff s).1 hready
    exact .inr ⟨hfilling, hfull, rfl, rfl⟩
  | passEnded hready _ hpos =>
    obtain ⟨hfilling, _⟩ := (sampleReady_iff s).1 hready
    exact .inr ⟨hfilling, rfl, .inr ((endOfPass_eq s.stx.loop).imp (.intro hpos) (.intro hpos))⟩
  | lastFrameClosed hready _ hpos =>
    obtain ⟨hfilling, _⟩ := (sampleReady_iff s).1 hready
    exact .inr ⟨hfilling, rfl, .inl ⟨hpos, rfl, rfl⟩⟩
  | restarted henabled =>
    obtain ⟨hwait, hgate⟩ := (loopRestartEnabled_iff s).1 henabled
    exact .inr ⟨hwait, hgate, rfl, rfl⟩
  | sent henabled hout =>
    obtain ⟨hready, hgate⟩ := (sendFrameEnabled_iff s).1 henabled
    refine .inr ⟨hready, hgate, ?_, _, hout, rfl⟩
    cases heof : s.stx.eof with
    | false => exact .inl ⟨rfl, rfl⟩
    | true => exact .inr ((endOfPass_eq s.stx.loop).imp (.intro rfl) (.intro rfl))

/-- Settles O55. -/
theorem streamTransitionsAreListed : Obligations.StreamTransitionsAreListed := by
  intro i s t hi hexec
  cases stepEffect_of_exec hi hexec with
  | stream h => exact h.edge
  | transfer h =>
    obtain ⟨_, _, _, _, _, _, hstx, _⟩ := h.frame
    exact .inl (congrArg Stx.state hstx)
  | cancelled =>
    by_cases hidle : s.stx.state = .idle
    · exact .inl (congrArg Stx.state (if_pos hidle))
    · exact .inr ⟨hidle, congrArg Stx.state (if_neg hidle), rfl⟩
  | reset => exact .inr ⟨rfl, rfl⟩
  | datagram | reserved | tick | cfgWrite => exact .inl rfl

/-! ### The transfer side -/

theorem TransferEffect.edge {i : Instr} {s t : State} (h : TransferEffect i s t) :
    (t.xfer.state = s.xfer.state ∧ t.xfer.idx = s.xfer.idx) ∨ TransferEdge i s t := by
  cases h with
  | startIgnored | replyHeard | replyMalformed | ackHeard | ackMalformed => exact .inl ⟨rfl, rfl⟩
  | requested hinactive hr =>
    obtain ⟨_, _, _, _, _, _, _, hidx0⟩ := latchXfer_ok hr
    exact .inr ⟨hinactive, latchXfer_legal hr, rfl, hidx0, rfl⟩
  | accepted hneg hreply hfits htotal =>
    exact .inr ⟨hneg, rfl, _, _, hreply, .inl ⟨hfits, Nat.pos_of_ne_zero htotal, rfl, rfl⟩⟩
  | acceptedEmpty hneg hreply hfits htotal =>
    exact .inr ⟨hneg, rfl, _, _, hreply, .inr (.inl ⟨hfits, htotal, rfl, rfl⟩)⟩
  | insufficient hneg hreply hover => exact .inr ⟨hneg, rfl, _, _, hreply, .inr (.inr ⟨hover, rfl, rfl⟩)⟩
  | replyTimedOut henabled =>
    obtain ⟨hneg, hnone, hlate⟩ := (capTimeoutEnabled_iff s).1 henabled
    exact .inr ⟨hneg, hnone, hlate, rfl, rfl, rfl⟩
  | chunkSent hsend => exact .inr ⟨hsend, rfl, rfl, rfl⟩
  | transferDone henabled hlast =>
    obtain ⟨hawait, hack⟩ := (ackMatchEnabled_iff s).1 henabled
    exact .inr ⟨hawait, hack, .inr ⟨hlast, rfl, rfl, rfl⟩⟩
  | chunkAcked henabled hmore =>
    obtain ⟨hawait, hack⟩ := (ackMatchEnabled_iff s).1 henabled
    exact .inr ⟨hawait, hack, .inl ⟨hmore, rfl, rfl, rfl⟩⟩
  | ackTimedOut henabled =>
    obtain ⟨hawait, hlate, hack⟩ := (ackTimeoutEnabled_iff s).1 henabled
    exact .inr ⟨hawait, hack, hlate, rfl, rfl, rfl⟩

/-- Settles O56. -/
theorem transferTransitionsAreListed : Obligations.TransferTransitionsAreListed := by
  intro i s t hi hexec
  cases stepEffect_of_exec hi hexec with
  | stream h =>
    obtain ⟨_, _, _, _, hxfer, _⟩ := h.frame
    rw [hxfer]
    exact .inl ⟨rfl, rfl⟩
  | transfer h => exact h.edge
  | cancelled =>
    by_cases hactive : xferActive s.xfer.state = true
    · have hxfer : (cancelled s).xfer = { s.xfer with state := .abortedCancelled } := if_pos hactive
      exact .inr ⟨hactive, congrArg Xfer.state hxfer, (congrArg Xfer.idx hxfer :), rfl⟩
    · have hxfer : (cancelled s).xfer = s.xfer := if_neg hactive
      exact .inl ⟨congrArg Xfer.state hxfer, congrArg Xfer.idx hxfer⟩
  | reset => exact .inr ⟨rfl, rfl, rfl⟩
  | datagram | reserved | tick | cfgWrite => exact .inl ⟨rfl, rfl⟩

end Sys2Proof.Machine

/-! ## Proofs: the configuration reaches no running session (10_state.md R31, 20_memory.md R58) -/

namespace Sys2Proof.Machine

/-! ### Shared operations under another configuration -/

/-- An answer from a state with another configuration is the answer from the state, with that configuration after. -/
def IgnoresConfig (run : State → Answer) : Prop :=
  ∀ (s : State) (c : CfgRegs), run (s.withCfg c) = mapNext (fun t => t.withCfg c) (run s)

/-- A function commutes with a choice under equivalent guards. -/
theorem ite_eq_apply_ite {α β : Type} (f : α → β) {p q : Prop} [Decidable p] [Decidable q] {a b : α} {a' b' : β}
    (hpq : p ↔ q) (ha : a' = f a) (hb : b' = f b) : (if p then a' else b') = f (if q then a else b) := by
  by_cases hq : q
  · rw [if_pos hq, if_pos (hpq.2 hq), ha]
  · rw [if_neg hq, if_neg (mt hpq.1 hq), hb]

theorem takeEvent_withCfg (e : Event) (info : SizeWord) (s : State) (c : CfgRegs) :
    takeEvent e info (s.withCfg c) = (takeEvent e info s).withCfg c := by
  cases e with
  | capNoReply => simp only [takeEvent_capNoReply]; rfl
  | capInsufficient => simp only [takeEvent_capInsufficient]; rfl
  | ackTimeout => simp only [takeEvent_ackTimeout]; rfl
  | cancelled => simp only [takeEvent_cancelled]; rfl
  | txSendFail | captureOverrun | malformedReply | decReject => rfl

theorem listenFree_withCfg (body : List Byte) (s : State) (c : CfgRegs) :
    listenFree body (s.withCfg c) = (listenFree body s).withCfg c := by
  unfold listenFree
  cases parseFree body <;> rfl

theorem listenAck_withCfg (body : List Byte) (s : State) (c : CfgRegs) :
    listenAck body (s.withCfg c) = (listenAck body s).withCfg c := by
  unfold listenAck
  cases parseAck body <;> rfl

theorem framePushAll_withCfg (xs : List Sample) (s : State) (c : CfgRegs) :
    framePushAll xs (s.withCfg c) = (framePushAll xs s).withCfg c := by
  induction xs generalizing s with
  | nil => rfl
  | cons x xs ih =>
    have hpush : framePush x (s.withCfg c) = (framePush x s).withCfg c := by
      rw [framePush_eq, framePush_eq]
      rfl
    rw [framePushAll, hpush, ih]
    rfl

theorem framePush_withCfg (x : Sample) (s : State) (c : CfgRegs) :
    framePush x (s.withCfg c) = (framePush x s).withCfg c := framePushAll_withCfg [x] s c

theorem framePad_withCfg (s : State) (c : CfgRegs) : framePad (s.withCfg c) = (framePad s).withCfg c :=
  framePushAll_withCfg _ s c

theorem encFrame_withCfg (xs : List Sample) (s : State) (c : CfgRegs) :
    encFrame xs (s.withCfg c) = (encFrame xs s).withCfg c := by
  simp only [encFrame, framePushAll_withCfg, framePad_withCfg]
  exact congrArg frameClose (ite_eq_apply_ite (fun t : State => t.withCfg c) Iff.rfl rfl rfl)

/-- What `PCM_IN` makes of the frame with its sample. -/
theorem readyIfFull_withCfg (t : State) (c : CfgRegs) :
    (if (t.withCfg c).pkt.pos = (t.withCfg c).stx.cfg.frameSamples then toReady (frameClose (t.withCfg c))
      else t.withCfg c) =
    (if t.pkt.pos = t.stx.cfg.frameSamples then toReady (frameClose t) else t).withCfg c :=
  ite_eq_apply_ite (fun t : State => t.withCfg c) Iff.rfl rfl rfl

/-! ### The operations -/

theorem guard_ignoresConfig {p q : Prop} [Decidable p] [Decidable q] {a b a' b' : Answer} {c : CfgRegs} (hpq : p ↔ q)
    (ha : a' = mapNext (fun t => t.withCfg c) a) (hb : b' = mapNext (fun t => t.withCfg c) b) :
    (if p then a' else b') = mapNext (fun t => t.withCfg c) (if q then a else b) :=
  ite_eq_apply_ite _ hpq ha hb

theorem framePush_ignoresConfig (x : Sample) : IgnoresConfig (execFramePush x) := fun s c =>
  guard_ignoresConfig Iff.rfl rfl (guard_ignoresConfig Iff.rfl (congrArg _ (framePush_withCfg x s c)) rfl)

theorem framePad_ignoresConfig : IgnoresConfig execFramePad := fun s c =>
  guard_ignoresConfig Iff.rfl rfl (guard_ignoresConfig Iff.rfl (congrArg _ (framePad_withCfg s c)) rfl)

theorem encFrame_ignoresConfig (xs : List Sample) : IgnoresConfig (execEncFrame xs) := fun s c =>
  guard_ignoresConfig Iff.rfl rfl (guard_ignoresConfig Iff.rfl (congrArg _ (encFrame_withCfg xs s c)) rfl)

theorem pcmIn_ignoresConfig (x : Sample) : IgnoresConfig (execPcmIn x) := by
  intro s c
  refine guard_ignoresConfig Iff.rfl rfl (guard_ignoresConfig Iff.rfl rfl (guard_ignoresConfig Iff.rfl rfl ?_))
  generalize hp : takeSample s.stx.mode x s.playback = o
  have hp' : takeSample (s.withCfg c).stx.mode x (s.withCfg c).playback = o := hp
  rw [hp']
  cases o with
  | none => rfl
  | some p =>
    rw [framePush_withCfg]
    exact congrArg _ (readyIfFull_withCfg ((framePush x s).withPlayback p) c)

theorem pcmEof_ignoresConfig : IgnoresConfig execPcmEof := by
  intro s c
  refine guard_ignoresConfig Iff.rfl rfl (guard_ignoresConfig Iff.rfl rfl (guard_ignoresConfig Iff.rfl
    (guard_ignoresConfig Iff.rfl rfl (guard_ignoresConfig Iff.rfl rfl ?_)) rfl))
  rw [framePad_withCfg]
  rfl

theorem sendFrame_ignoresConfig (r : SendResult) : IgnoresConfig (exec (.sendFrame r)) := by
  intro s c
  have hsame : sendFrameEnabled (s.withCfg c) = sendFrameEnabled s := rfl
  show execSendFrame r (s.withCfg c) = mapNext _ (execSendFrame r s)
  by_cases h : sendFrameEnabled s = true
  · cases hout : s.pkt.out with
    | none =>
      have hout' : (s.withCfg c).pkt.out = none := hout
      simp only [execSendFrame, hsame, hout, hout']
      exact guard_ignoresConfig Iff.rfl rfl rfl
    | some b =>
      refine (exec_sendFrame_of_enabled (s := s.withCfg c) h hout r).trans ?_
      refine Eq.trans ?_ (congrArg _ (exec_sendFrame_of_enabled h hout r).symm)
      exact guard_ignoresConfig Iff.rfl rfl rfl
  · simp [execSendFrame, hsame, h, mapNext]

theorem capDecide_ignoresConfig : IgnoresConfig (exec .capDecide) := by
  intro s c
  by_cases h : capDecideEnabled s = true
  · obtain ⟨hneg, f, g, hreply⟩ := (capDecideEnabled_iff s).1 h
    rw [exec_capDecide_of_reply hneg hreply, exec_capDecide_of_reply (s := s.withCfg c) hneg hreply]
    exact congrArg _ (ite_eq_apply_ite (fun t : State => t.withCfg c) Iff.rfl
      (ite_eq_apply_ite (fun t : State => t.withCfg c) Iff.rfl rfl rfl) rfl)
  · have hsame : capDecideEnabled (s.withCfg c) = capDecideEnabled s := rfl
    show execCapDecide (s.withCfg c) = mapNext _ (execCapDecide s)
    simp [execCapDecide, hsame, h, mapNext]

theorem xferAckMatch_ignoresConfig : IgnoresConfig execXferAckMatch := fun _ _ =>
  guard_ignoresConfig Iff.rfl rfl (guard_ignoresConfig Iff.rfl rfl (guard_ignoresConfig Iff.rfl rfl rfl))

theorem decodeCode_ignoresConfig (code : Code) : IgnoresConfig (decodeCode code) := fun _ _ =>
  guard_ignoresConfig Iff.rfl rfl rfl

/-- Settles O59. -/
theorem runningSessionsIgnoreConfiguration : Obligations.RunningSessionsIgnoreConfiguration := by
  intro i s c hi
  cases i with
  | packet | streamStart | xferStart | pktDecode | cfgWrite | reset => exact absurd hi.symm Bool.false_ne_true
  | payloadByte | recon | encSample | encLoad | decLoad | frameClose | paceMark | tick =>
    exact guard_ignoresConfig Iff.rfl rfl rfl
  | req | start | chunk | endMsg | cmdReserved | paceAnchor | paceGate => rfl
  | free => exact congrArg _ (listenFree_withCfg _ s c)
  | msgInFree => exact congrArg _ (listenFree_withCfg _ s c)
  | ack => exact congrArg _ (listenAck_withCfg _ s c)
  | msgInAck => exact congrArg _ (listenAck_withCfg _ s c)
  | cancel => rw [exec_cancel, exec_cancel]; rfl
  | eventTxSendFail | eventCaptureOverrun | eventCapNoReply | eventCapInsufficient | eventAckTimeout
  | eventMalformedReply | eventCancelled | eventDecReject => exact congrArg _ (takeEvent_withCfg _ _ s c)
  | framePush x => exact framePush_ignoresConfig x s c
  | framePad => exact framePad_ignoresConfig s c
  | encFrame xs => exact encFrame_ignoresConfig xs s c
  | pcmIn x => exact pcmIn_ignoresConfig x s c
  | pcmEof => exact pcmEof_ignoresConfig s c
  | sendFrame r => exact sendFrame_ignoresConfig r s c
  | loopRestart => exact guard_ignoresConfig Iff.rfl rfl rfl
  | pcmOverrun => exact guard_ignoresConfig Iff.rfl rfl rfl
  | capDecide => exact capDecide_ignoresConfig s c
  | capTimeout => exact guard_ignoresConfig Iff.rfl (congrArg _ (takeEvent_withCfg _ _ (clearReply s) c)) rfl
  | xferSendChunk =>
    exact guard_ignoresConfig Iff.rfl rfl (guard_ignoresConfig Iff.rfl rfl (guard_ignoresConfig Iff.rfl rfl rfl))
  | xferAckMatch => exact xferAckMatch_ignoresConfig s c
  | xferAckTimeout => exact guard_ignoresConfig Iff.rfl (congrArg _ (takeEvent_withCfg _ _ s c)) rfl
  | decSample code => exact decodeCode_ignoresConfig code s c
  | _ => exact decodeCode_ignoresConfig _ s c

end Sys2Proof.Machine

/-! ## Proofs: the two sides do not see each other (45_transfer.md R216) -/

namespace Sys2Proof.Machine

/-! ### A side seen from another block -/

/-- The state `u` with all that the streaming side reads or writes taken from `s`. -/
def State.streamSideIn (s u : State) : State :=
  { u with
    cfg := s.cfg, enc := s.enc, pkt := s.pkt, pacer := s.pacer, stx := s.stx, now := s.now
    playback := s.playback }

/-- The state `u` with all that the transfer side reads or writes taken from `s`. -/
def State.transferSideIn (s u : State) : State :=
  { u with cfg := s.cfg, lsn := s.lsn, xfer := s.xfer, file := s.file, now := s.now }

theorem streamSideIn_of_sameStreamView {s u : State} (h : sameStreamView s u) : s.streamSideIn u = u := by
  obtain ⟨hcfg, henc, hpkt, hpacer, hstx, hnow, hplayback⟩ := h
  rw [State.streamSideIn, hcfg, henc, hpkt, hpacer, hstx, hnow, hplayback]

theorem transferSideIn_of_sameTransferView {s u : State} (h : sameTransferView s u) : s.transferSideIn u = u := by
  obtain ⟨hcfg, hlsn, hxfer, hfile, hnow⟩ := h
  rw [State.transferSideIn, hcfg, hlsn, hxfer, hfile, hnow]

/-- A run of pushes reads and writes `ENC` and the packetizer alone. -/
theorem framePushAll_streamSideIn (xs : List Sample) (s u : State) :
    framePushAll xs (s.streamSideIn u) = (framePushAll xs s).streamSideIn u := by
  induction xs generalizing s with
  | nil => rfl
  | cons x xs ih =>
    have hpush : framePush x (s.streamSideIn u) = (framePush x s).streamSideIn u := by
      rw [framePush_eq, framePush_eq]
      rfl
    rw [framePushAll, hpush, ih]
    rfl

theorem framePush_streamSideIn (x : Sample) (s u : State) :
    framePush x (s.streamSideIn u) = (framePush x s).streamSideIn u := framePushAll_streamSideIn [x] s u

theorem framePad_streamSideIn (s u : State) : framePad (s.streamSideIn u) = (framePad s).streamSideIn u :=
  framePushAll_streamSideIn _ s u

/-- What a step of the streaming side does, and emits, in one block it does in every block whose streaming side is the
same. -/
theorem StreamEffect.streamSideIn {i : Instr} {s t : State} (h : StreamEffect i s t) :
    ∃ new, t.outputs = new ++ s.outputs ∧
      ∀ u, StreamEffect i (s.streamSideIn u) (t.streamSideIn { u with outputs := new ++ u.outputs }) := by
  cases h with
  | startIgnored h => exact ⟨[], rfl, fun u => .startIgnored h⟩
  | started h hr => exact ⟨[], rfl, fun u => .started (s := s.streamSideIn u) h hr⟩
  | @frameGrown x p _ hready hroom hs hp hshort =>
    refine ⟨[], rfl, fun u => ?_⟩
    have heffect := StreamEffect.frameGrown (s := s.streamSideIn u) hready hroom hs hp hshort
    rw [framePush_streamSideIn] at heffect
    exact heffect
  | @frameFilled x p _ hready hs hp hfull =>
    refine ⟨[], rfl, fun u => ?_⟩
    have heffect := StreamEffect.frameFilled (s := s.streamSideIn u) hready hs hp hfull
    rw [framePush_streamSideIn] at heffect
    exact heffect
  | passEnded hready hend hpos => exact ⟨[], rfl, fun u => .passEnded (s := s.streamSideIn u) hready hend hpos⟩
  | lastFrameClosed hready hend hpos hroom hs =>
    refine ⟨[], rfl, fun u => ?_⟩
    have heffect := StreamEffect.lastFrameClosed (s := s.streamSideIn u) hready hend hpos hroom hs
    rw [framePad_streamSideIn] at heffect
    exact heffect
  | restarted h => exact ⟨[_], rfl, fun u => .restarted (s := s.streamSideIn u) h⟩
  | @sent r b _ h hout hfits =>
    refine ⟨(if r = .fail then [.event 1 (s.pkt.seq - 1)] else []) ++ [.dgram s.stx.cfg.destAddr s.stx.cfg.destPort b],
      (List.append_assoc _ [_] _).symm, fun u => ?_⟩
    rw [List.append_assoc]
    exact .sent (s := s.streamSideIn u) h hout hfits
  | overrunIgnored h => exact ⟨[], rfl, fun u => .overrunIgnored h⟩
  | overrun h => exact ⟨[_], rfl, fun u => .overrun (s := s.streamSideIn u) h⟩

/-- What a step of the transfer side does, and emits, in one block it does in every block whose transfer side is the
same. -/
theorem TransferEffect.transferSideIn {i : Instr} {s t : State} (h : TransferEffect i s t) :
    ∃ new, t.outputs = new ++ s.outputs ∧
      ∀ u, TransferEffect i (s.transferSideIn u) (t.transferSideIn { u with outputs := new ++ u.outputs }) := by
  cases h with
  | startIgnored h => exact ⟨[], rfl, fun u => .startIgnored h⟩
  | requested h hr => exact ⟨[_], rfl, fun u => .requested (s := s.transferSideIn u) h hr⟩
  | replyHeard h => exact ⟨[], rfl, fun u => .replyHeard (s := s.transferSideIn u) h⟩
  | replyMalformed h => exact ⟨[_], rfl, fun u => .replyMalformed (s := s.transferSideIn u) h⟩
  | ackHeard h => exact ⟨[], rfl, fun u => .ackHeard (s := s.transferSideIn u) h⟩
  | ackMalformed h => exact ⟨[_], rfl, fun u => .ackMalformed (s := s.transferSideIn u) h⟩
  | accepted hneg hreply hfits htotal =>
    exact ⟨[_], rfl, fun u => .accepted (s := s.transferSideIn u) hneg hreply hfits htotal⟩
  | acceptedEmpty hneg hreply hfits htotal =>
    exact ⟨[_, _], rfl, fun u => .acceptedEmpty (s := s.transferSideIn u) hneg hreply hfits htotal⟩
  | insufficient hneg hreply hover =>
    exact ⟨[_], rfl, fun u => .insufficient (s := s.transferSideIn u) hneg hreply hover⟩
  | replyTimedOut h => exact ⟨[_], rfl, fun u => .replyTimedOut (s := s.transferSideIn u) h⟩
  | chunkSent hsend hfits hfile =>
    exact ⟨[_], rfl, fun u => .chunkSent (s := s.transferSideIn u) hsend hfits hfile⟩
  | transferDone h hlast => exact ⟨[_], rfl, fun u => .transferDone (s := s.transferSideIn u) h hlast⟩
  | chunkAcked h hmore hfits => exact ⟨[], rfl, fun u => .chunkAcked (s := s.transferSideIn u) h hmore hfits⟩
  | ackTimedOut h => exact ⟨[_], rfl, fun u => .ackTimedOut (s := s.transferSideIn u) h⟩

/-! ### Noninterference -/

/-- A step of the streaming side from a state that looks the same to it. -/
theorem exec_of_sameStreamView {i : Instr} {s u t : State} (hi : i.isStreaming = true) (hview : sameStreamView s u)
    (h : exec i s = .next t) :
    ∃ new, t.outputs = new ++ s.outputs ∧
      exec i u = .next (t.streamSideIn { u with outputs := new ++ u.outputs }) := by
  obtain ⟨new, hout, heffect⟩ := (streamEffect_of_exec hi h).streamSideIn
  have hexec := (heffect u).exec_eq
  rw [streamSideIn_of_sameStreamView hview] at hexec
  exact ⟨new, hout, hexec⟩

/-- A step of the transfer side from a state that looks the same to it. -/
theorem exec_of_sameTransferView {i : Instr} {s u t : State} (hi : i.isTransfer = true)
    (hview : sameTransferView s u) (h : exec i s = .next t) :
    ∃ new, t.outputs = new ++ s.outputs ∧
      exec i u = .next (t.transferSideIn { u with outputs := new ++ u.outputs }) := by
  obtain ⟨new, hout, heffect⟩ := (transferEffect_of_exec hi h).transferSideIn
  have hexec := (heffect u).exec_eq
  rw [transferSideIn_of_sameTransferView hview] at hexec
  exact ⟨new, hout, hexec⟩

/-- Settles O57. -/
theorem sidesDoNotSeeEachOther : Obligations.SidesDoNotSeeEachOther := by
  refine ⟨fun i s u t hi hview h => ?_, fun i s u t hi hview h => ?_⟩
  · obtain ⟨_, _, _, hlsn, hxfer, _, hfile, _⟩ := (streamEffect_of_exec hi h).frame
    obtain ⟨new, hout, hexec⟩ := exec_of_sameStreamView hi hview h
    exact ⟨hlsn, hxfer, hfile, _, new, hexec, ⟨rfl, rfl, rfl, rfl, rfl, rfl, rfl⟩, hout, rfl⟩
  · obtain ⟨_, henc, _, _, hpkt, hpacer, hstx, _, _, _, hplayback, _⟩ := (transferEffect_of_exec hi h).frame
    obtain ⟨new, hout, hexec⟩ := exec_of_sameTransferView hi hview h
    exact ⟨henc, hpkt, hpacer, hstx, hplayback, _, new, hexec, ⟨rfl, rfl, rfl, rfl, rfl⟩, hout, rfl⟩

/-- Settles O58: each side finds its own registers as they were, and the two finals are put together from the two
results. -/
theorem sidesCommute : Obligations.SidesCommute := by
  intro i j s a b hi hj ha hb
  obtain ⟨acfg, adec, arejects, alsn, axfer, anow, afile, aret, asends, ascript, ainbox⟩ :=
    (streamEffect_of_exec hi ha).frame
  obtain ⟨bcfg, benc, bdec, brejects, bpkt, bpacer, bstx, bnow, bfile, bret, bplayback, bsends, bscript, binbox⟩ :=
    (transferEffect_of_exec hj hb).frame
  obtain ⟨anew, aout, hib⟩ := exec_of_sameStreamView (u := b) hi
    ⟨bcfg.symm, benc.symm, bpkt.symm, bpacer.symm, bstx.symm, bnow.symm, bplayback.symm⟩ ha
  obtain ⟨bnew, bout, hja⟩ := exec_of_sameTransferView (u := a) hj
    ⟨acfg.symm, alsn.symm, axfer.symm, afile.symm, anow.symm⟩ hb
  refine ⟨_, _, hja, hib, ?_, ?_⟩
  · simp only [State.transferSideIn, State.streamSideIn, acfg, adec, arejects, anow, aret, asends, ascript, ainbox,
      bcfg, bdec, brejects, bnow, bret, bsends, bscript, binbox]
  · show (bnew ++ a.outputs).Perm (anew ++ b.outputs)
    rw [aout, bout, ← List.append_assoc, ← List.append_assoc]
    exact List.perm_append_comm.append_right _

end Sys2Proof.Machine
